-- ==== Sys2Proof/Word.lean ====
section
/-! DEFINITION. The two word types of the core (00_scope.md R6, R8): every register but PC is a byte, PC and every
address are 16 bits. Byte order, extension and joining are in Machine/Bits.lean. -/

namespace Sys2Proof

/-- A data byte, the width of A, X, Y, P, SP and of every memory cell (R6). -/
abbrev Byte := BitVec 8

/-- A 16-bit address, the width of PC (R6). `+` on it is the spec's `+16` (R9), on `Byte` it is `+8`. -/
abbrev Addr := BitVec 16

end Sys2Proof
end

