-- ==== Sys2Proof/Syntax.lean ====
section
/-! DEFINITION. The syntax: addressing-mode tags (40_dispatch_and_addressing.md R88), operand forms (30_encoding.md R66),
mnemonics, and `Instr` with one constructor for each row of spec/opcode_table.json (R60, R64). An instruction carries no
operand: the opcode byte alone fixes it (R61), and the core reads the operand bytes while it executes (R63, R81, R102;
log entry 14). `MachineCode` is an instruction with its operand bytes, as they lie in memory. -/

namespace Sys2Proof

/-- The addressing-mode tags of R88. -/
inductive AddressingMode where
  | immediate | zeroPage | zeroPageX | zeroPageY | absolute | absoluteX | absoluteY | indirectX | indirectY
  | noneAddressing
  deriving DecidableEq, Repr

/-- The operand forms of R66. -/
inductive OperandForm where
  | implied | accumulator | immediate | zeroPage | zeroPageX | zeroPageY | absolute | absoluteX | absoluteY
  | indirectX | indirectY | relative | jumpAbsolute | jumpIndirect
  deriving DecidableEq, Repr

/-- The 56 mnemonics of the opcode table. -/
inductive Mnemonic where
  | lda | ldx | ldy | sta | stx | sty | tax | tay | txa | tya | tsx | txs
  | adc | sbc | and | ora | eor | bit | cmp | cpx | cpy
  | asl | lsr | rol | ror | inc | dec | inx | iny | dex | dey
  | pha | php | pla | plp
  | bcc | bcs | beq | bne | bmi | bpl | bvc | bvs | jmp | jsr | rts | rti | brk | nop
  | clc | cld | cli | clv | sec | sed | sei
  deriving DecidableEq, Repr

/-- The 151 instructions, one for each row of the opcode table. The suffix of a name is the operand form: `Imm`, `Zp`,
`ZpX`, `ZpY`, `Abs`, `AbsX`, `AbsY`, `IndX` for `(zp,X)`, `IndY` for `(zp),Y`, `Acc`; `jmpInd` is `JMP (abs)`. -/
inductive Instr where
  -- Loads, stores and transfers (41_load_store_transfer.md)
  | ldaIndX | ldaZp | ldaImm | ldaAbs | ldaIndY | ldaZpX | ldaAbsY | ldaAbsX
  | ldxImm | ldxZp | ldxAbs | ldxZpY | ldxAbsY
  | ldyImm | ldyZp | ldyAbs | ldyZpX | ldyAbsX
  | staIndX | staZp | staAbs | staIndY | staZpX | staAbsY | staAbsX
  | stxZp | stxAbs | stxZpY
  | styZp | styAbs | styZpX
  | tax
  | tay
  | txa
  | tya
  | tsx
  | txs
  -- Arithmetic, logic, bit test and compare (42_arithmetic_logic.md)
  | adcIndX | adcZp | adcImm | adcAbs | adcIndY | adcZpX | adcAbsY | adcAbsX
  | sbcIndX | sbcZp | sbcImm | sbcAbs | sbcIndY | sbcZpX | sbcAbsY | sbcAbsX
  | andIndX | andZp | andImm | andAbs | andIndY | andZpX | andAbsY | andAbsX
  | oraIndX | oraZp | oraImm | oraAbs | oraIndY | oraZpX | oraAbsY | oraAbsX
  | eorIndX | eorZp | eorImm | eorAbs | eorIndY | eorZpX | eorAbsY | eorAbsX
  | bitZp | bitAbs
  | cmpIndX | cmpZp | cmpImm | cmpAbs | cmpIndY | cmpZpX | cmpAbsY | cmpAbsX
  | cpxImm | cpxZp | cpxAbs
  | cpyImm | cpyZp | cpyAbs
  -- Shifts, rotates, increments and decrements (43_shift_incdec.md)
  | aslZp | aslAcc | aslAbs | aslZpX | aslAbsX
  | lsrZp | lsrAcc | lsrAbs | lsrZpX | lsrAbsX
  | rolZp | rolAcc | rolAbs | rolZpX | rolAbsX
  | rorZp | rorAcc | rorAbs | rorZpX | rorAbsX
  | incZp | incAbs | incZpX | incAbsX
  | decZp | decAbs | decZpX | decAbsX
  | inx
  | iny
  | dex
  | dey
  -- Stack instructions (44_stack.md)
  | pha
  | php
  | pla
  | plp
  -- Branches, jumps, calls, returns, halt and no-op (45_control.md)
  | bcc
  | bcs
  | beq
  | bne
  | bmi
  | bpl
  | bvc
  | bvs
  | jmpAbs | jmpInd
  | jsr
  | rts
  | rti
  | brk
  | nop
  -- Flag set and clear (46_flags.md)
  | clc
  | cld
  | cli
  | clv
  | sec
  | sed
  | sei
  deriving DecidableEq, Repr

/-- An instruction as its bytes lie in memory: the opcode (by its instruction) and the operand bytes after it (R61). -/
structure MachineCode where
  instr : Instr
  operand : List Byte
  deriving DecidableEq, Repr

end Sys2Proof
end

