-- ==== Sys2Proof/Machine/Descriptor.lean ====
section
/-! DEFINITION. The opcode descriptor table (30_encoding.md R60): for each instruction its mnemonic, operand form, length
in bytes with the opcode, and base cycle count. Fixed data, consulted, never mutated (10_state.md R32). The cycle counts
are informational: no rule and no definition of the model reads them (70_reset_and_hazards.md R270; log entry 13). -/

namespace Sys2Proof

/-- The descriptor of R60. Its mode is the tag of its operand form (`OperandForm.mode`). -/
structure Descriptor where
  mnemonic : Mnemonic
  form : OperandForm
  length : Nat
  cycles : Nat
  deriving DecidableEq, Repr

/-- The mode tag of an operand form (R88): NoneAddressing for every form whose handler reads its own operand or has no
memory operand. -/
def OperandForm.mode : OperandForm → AddressingMode
  | .immediate => .immediate
  | .zeroPage => .zeroPage
  | .zeroPageX => .zeroPageX
  | .zeroPageY => .zeroPageY
  | .absolute => .absolute
  | .absoluteX => .absoluteX
  | .absoluteY => .absoluteY
  | .indirectX => .indirectX
  | .indirectY => .indirectY
  | .implied => .noneAddressing
  | .accumulator => .noneAddressing
  | .relative => .noneAddressing
  | .jumpAbsolute => .noneAddressing
  | .jumpIndirect => .noneAddressing

/-- The table of R60, by instruction. -/
def Instr.descriptor : Instr → Descriptor
  | .ldaIndX => ⟨.lda, .indirectX, 2, 6⟩
  | .ldaZp => ⟨.lda, .zeroPage, 2, 3⟩
  | .ldaImm => ⟨.lda, .immediate, 2, 2⟩
  | .ldaAbs => ⟨.lda, .absolute, 3, 4⟩
  | .ldaIndY => ⟨.lda, .indirectY, 2, 5⟩
  | .ldaZpX => ⟨.lda, .zeroPageX, 2, 4⟩
  | .ldaAbsY => ⟨.lda, .absoluteY, 3, 4⟩
  | .ldaAbsX => ⟨.lda, .absoluteX, 3, 4⟩
  | .ldxImm => ⟨.ldx, .immediate, 2, 2⟩
  | .ldxZp => ⟨.ldx, .zeroPage, 2, 3⟩
  | .ldxAbs => ⟨.ldx, .absolute, 3, 4⟩
  | .ldxZpY => ⟨.ldx, .zeroPageY, 2, 4⟩
  | .ldxAbsY => ⟨.ldx, .absoluteY, 3, 4⟩
  | .ldyImm => ⟨.ldy, .immediate, 2, 2⟩
  | .ldyZp => ⟨.ldy, .zeroPage, 2, 3⟩
  | .ldyAbs => ⟨.ldy, .absolute, 3, 4⟩
  | .ldyZpX => ⟨.ldy, .zeroPageX, 2, 4⟩
  | .ldyAbsX => ⟨.ldy, .absoluteX, 3, 4⟩
  | .staIndX => ⟨.sta, .indirectX, 2, 6⟩
  | .staZp => ⟨.sta, .zeroPage, 2, 3⟩
  | .staAbs => ⟨.sta, .absolute, 3, 4⟩
  | .staIndY => ⟨.sta, .indirectY, 2, 6⟩
  | .staZpX => ⟨.sta, .zeroPageX, 2, 4⟩
  | .staAbsY => ⟨.sta, .absoluteY, 3, 5⟩
  | .staAbsX => ⟨.sta, .absoluteX, 3, 5⟩
  | .stxZp => ⟨.stx, .zeroPage, 2, 3⟩
  | .stxAbs => ⟨.stx, .absolute, 3, 4⟩
  | .stxZpY => ⟨.stx, .zeroPageY, 2, 4⟩
  | .styZp => ⟨.sty, .zeroPage, 2, 3⟩
  | .styAbs => ⟨.sty, .absolute, 3, 4⟩
  | .styZpX => ⟨.sty, .zeroPageX, 2, 4⟩
  | .tax => ⟨.tax, .implied, 1, 2⟩
  | .tay => ⟨.tay, .implied, 1, 2⟩
  | .txa => ⟨.txa, .implied, 1, 2⟩
  | .tya => ⟨.tya, .implied, 1, 2⟩
  | .tsx => ⟨.tsx, .implied, 1, 2⟩
  | .txs => ⟨.txs, .implied, 1, 2⟩
  | .adcIndX => ⟨.adc, .indirectX, 2, 6⟩
  | .adcZp => ⟨.adc, .zeroPage, 2, 3⟩
  | .adcImm => ⟨.adc, .immediate, 2, 2⟩
  | .adcAbs => ⟨.adc, .absolute, 3, 4⟩
  | .adcIndY => ⟨.adc, .indirectY, 2, 5⟩
  | .adcZpX => ⟨.adc, .zeroPageX, 2, 4⟩
  | .adcAbsY => ⟨.adc, .absoluteY, 3, 4⟩
  | .adcAbsX => ⟨.adc, .absoluteX, 3, 4⟩
  | .sbcIndX => ⟨.sbc, .indirectX, 2, 6⟩
  | .sbcZp => ⟨.sbc, .zeroPage, 2, 3⟩
  | .sbcImm => ⟨.sbc, .immediate, 2, 2⟩
  | .sbcAbs => ⟨.sbc, .absolute, 3, 4⟩
  | .sbcIndY => ⟨.sbc, .indirectY, 2, 5⟩
  | .sbcZpX => ⟨.sbc, .zeroPageX, 2, 4⟩
  | .sbcAbsY => ⟨.sbc, .absoluteY, 3, 4⟩
  | .sbcAbsX => ⟨.sbc, .absoluteX, 3, 4⟩
  | .andIndX => ⟨.and, .indirectX, 2, 6⟩
  | .andZp => ⟨.and, .zeroPage, 2, 3⟩
  | .andImm => ⟨.and, .immediate, 2, 2⟩
  | .andAbs => ⟨.and, .absolute, 3, 4⟩
  | .andIndY => ⟨.and, .indirectY, 2, 5⟩
  | .andZpX => ⟨.and, .zeroPageX, 2, 4⟩
  | .andAbsY => ⟨.and, .absoluteY, 3, 4⟩
  | .andAbsX => ⟨.and, .absoluteX, 3, 4⟩
  | .oraIndX => ⟨.ora, .indirectX, 2, 6⟩
  | .oraZp => ⟨.ora, .zeroPage, 2, 3⟩
  | .oraImm => ⟨.ora, .immediate, 2, 2⟩
  | .oraAbs => ⟨.ora, .absolute, 3, 4⟩
  | .oraIndY => ⟨.ora, .indirectY, 2, 5⟩
  | .oraZpX => ⟨.ora, .zeroPageX, 2, 4⟩
  | .oraAbsY => ⟨.ora, .absoluteY, 3, 4⟩
  | .oraAbsX => ⟨.ora, .absoluteX, 3, 4⟩
  | .eorIndX => ⟨.eor, .indirectX, 2, 6⟩
  | .eorZp => ⟨.eor, .zeroPage, 2, 3⟩
  | .eorImm => ⟨.eor, .immediate, 2, 2⟩
  | .eorAbs => ⟨.eor, .absolute, 3, 4⟩
  | .eorIndY => ⟨.eor, .indirectY, 2, 5⟩
  | .eorZpX => ⟨.eor, .zeroPageX, 2, 4⟩
  | .eorAbsY => ⟨.eor, .absoluteY, 3, 4⟩
  | .eorAbsX => ⟨.eor, .absoluteX, 3, 4⟩
  | .bitZp => ⟨.bit, .zeroPage, 2, 3⟩
  | .bitAbs => ⟨.bit, .absolute, 3, 4⟩
  | .cmpIndX => ⟨.cmp, .indirectX, 2, 6⟩
  | .cmpZp => ⟨.cmp, .zeroPage, 2, 3⟩
  | .cmpImm => ⟨.cmp, .immediate, 2, 2⟩
  | .cmpAbs => ⟨.cmp, .absolute, 3, 4⟩
  | .cmpIndY => ⟨.cmp, .indirectY, 2, 5⟩
  | .cmpZpX => ⟨.cmp, .zeroPageX, 2, 4⟩
  | .cmpAbsY => ⟨.cmp, .absoluteY, 3, 4⟩
  | .cmpAbsX => ⟨.cmp, .absoluteX, 3, 4⟩
  | .cpxImm => ⟨.cpx, .immediate, 2, 2⟩
  | .cpxZp => ⟨.cpx, .zeroPage, 2, 3⟩
  | .cpxAbs => ⟨.cpx, .absolute, 3, 4⟩
  | .cpyImm => ⟨.cpy, .immediate, 2, 2⟩
  | .cpyZp => ⟨.cpy, .zeroPage, 2, 3⟩
  | .cpyAbs => ⟨.cpy, .absolute, 3, 4⟩
  | .aslZp => ⟨.asl, .zeroPage, 2, 5⟩
  | .aslAcc => ⟨.asl, .accumulator, 1, 2⟩
  | .aslAbs => ⟨.asl, .absolute, 3, 6⟩
  | .aslZpX => ⟨.asl, .zeroPageX, 2, 6⟩
  | .aslAbsX => ⟨.asl, .absoluteX, 3, 7⟩
  | .lsrZp => ⟨.lsr, .zeroPage, 2, 5⟩
  | .lsrAcc => ⟨.lsr, .accumulator, 1, 2⟩
  | .lsrAbs => ⟨.lsr, .absolute, 3, 6⟩
  | .lsrZpX => ⟨.lsr, .zeroPageX, 2, 6⟩
  | .lsrAbsX => ⟨.lsr, .absoluteX, 3, 7⟩
  | .rolZp => ⟨.rol, .zeroPage, 2, 5⟩
  | .rolAcc => ⟨.rol, .accumulator, 1, 2⟩
  | .rolAbs => ⟨.rol, .absolute, 3, 6⟩
  | .rolZpX => ⟨.rol, .zeroPageX, 2, 6⟩
  | .rolAbsX => ⟨.rol, .absoluteX, 3, 7⟩
  | .rorZp => ⟨.ror, .zeroPage, 2, 5⟩
  | .rorAcc => ⟨.ror, .accumulator, 1, 2⟩
  | .rorAbs => ⟨.ror, .absolute, 3, 6⟩
  | .rorZpX => ⟨.ror, .zeroPageX, 2, 6⟩
  | .rorAbsX => ⟨.ror, .absoluteX, 3, 7⟩
  | .incZp => ⟨.inc, .zeroPage, 2, 5⟩
  | .incAbs => ⟨.inc, .absolute, 3, 6⟩
  | .incZpX => ⟨.inc, .zeroPageX, 2, 6⟩
  | .incAbsX => ⟨.inc, .absoluteX, 3, 7⟩
  | .decZp => ⟨.dec, .zeroPage, 2, 5⟩
  | .decAbs => ⟨.dec, .absolute, 3, 6⟩
  | .decZpX => ⟨.dec, .zeroPageX, 2, 6⟩
  | .decAbsX => ⟨.dec, .absoluteX, 3, 7⟩
  | .inx => ⟨.inx, .implied, 1, 2⟩
  | .iny => ⟨.iny, .implied, 1, 2⟩
  | .dex => ⟨.dex, .implied, 1, 2⟩
  | .dey => ⟨.dey, .implied, 1, 2⟩
  | .pha => ⟨.pha, .implied, 1, 3⟩
  | .php => ⟨.php, .implied, 1, 3⟩
  | .pla => ⟨.pla, .implied, 1, 4⟩
  | .plp => ⟨.plp, .implied, 1, 4⟩
  | .bcc => ⟨.bcc, .relative, 2, 2⟩
  | .bcs => ⟨.bcs, .relative, 2, 2⟩
  | .beq => ⟨.beq, .relative, 2, 2⟩
  | .bne => ⟨.bne, .relative, 2, 2⟩
  | .bmi => ⟨.bmi, .relative, 2, 2⟩
  | .bpl => ⟨.bpl, .relative, 2, 2⟩
  | .bvc => ⟨.bvc, .relative, 2, 2⟩
  | .bvs => ⟨.bvs, .relative, 2, 2⟩
  | .jmpAbs => ⟨.jmp, .jumpAbsolute, 3, 3⟩
  | .jmpInd => ⟨.jmp, .jumpIndirect, 3, 5⟩
  | .jsr => ⟨.jsr, .jumpAbsolute, 3, 6⟩
  | .rts => ⟨.rts, .implied, 1, 6⟩
  | .rti => ⟨.rti, .implied, 1, 6⟩
  | .brk => ⟨.brk, .implied, 1, 7⟩
  | .nop => ⟨.nop, .implied, 1, 2⟩
  | .clc => ⟨.clc, .implied, 1, 2⟩
  | .cld => ⟨.cld, .implied, 1, 2⟩
  | .cli => ⟨.cli, .implied, 1, 2⟩
  | .clv => ⟨.clv, .implied, 1, 2⟩
  | .sec => ⟨.sec, .implied, 1, 2⟩
  | .sed => ⟨.sed, .implied, 1, 2⟩
  | .sei => ⟨.sei, .implied, 1, 2⟩

/-- The mnemonic of an instruction. -/
def Instr.mnemonic (i : Instr) : Mnemonic := i.descriptor.mnemonic

/-- The operand form of an instruction. -/
def Instr.form (i : Instr) : OperandForm := i.descriptor.form

/-- The addressing-mode tag of an instruction (R60, R88). -/
def Instr.mode (i : Instr) : AddressingMode := i.form.mode

/-- The byte length of an instruction, the opcode included (R60). -/
def Instr.length (i : Instr) : Nat := i.descriptor.length

end Sys2Proof
end

