-- ==== Sys2Proof/WellFormed.lean ====
section
/-! DEFINITION. Well-formedness. `Instr` holds nothing that could be ill-formed: a value of it is a row of the opcode table.
An instruction with its operand bytes is well formed when it has as many of them as its length says (30_encoding.md R61). -/

namespace Sys2Proof

/-- One opcode byte and `length - 1` operand bytes (R61). -/
def MachineCode.wellFormed (c : MachineCode) : Bool := c.operand.length == c.instr.length - 1

end Sys2Proof
end

