-- ==== Sys2Proof/Decode.lean ====
section
/-! DEFINITION. The decoder, written from the opcode map of 30_encoding.md R64, and after it the encoder, written from
the encodings of the instruction rules (files 41 to 46 and spec/opcode_table.json). Laws/Decode.lean proves that the two
transcriptions agree. Decoding is by the whole opcode byte (R61); an undefined byte has no descriptor (R65). -/

namespace Sys2Proof

/-- Why bytes do not decode. -/
inductive DecodeError where
  /-- There is no byte to decode. -/
  | noBytes
  /-- The byte is one of the 105 undefined ones (R65). -/
  | unknownOpcode (byte : Byte)
  /-- The bytes end inside the operand of this instruction (R61). -/
  | missingOperand (instr : Instr)
  deriving DecidableEq, Repr

/-- Row 0 of the opcode map (R64); `none` is the map's `--` (R65). -/
def opcodeRow0 : List (Option Instr) :=
  [some .brk, some .oraIndX, none, none, none, some .oraZp, some .aslZp, none,
   some .php, some .oraImm, some .aslAcc, none, none, some .oraAbs, some .aslAbs, none]

/-- Row 1 of the opcode map (R64); `none` is the map's `--` (R65). -/
def opcodeRow1 : List (Option Instr) :=
  [some .bpl, some .oraIndY, none, none, none, some .oraZpX, some .aslZpX, none,
   some .clc, some .oraAbsY, none, none, none, some .oraAbsX, some .aslAbsX, none]

/-- Row 2 of the opcode map (R64); `none` is the map's `--` (R65). -/
def opcodeRow2 : List (Option Instr) :=
  [some .jsr, some .andIndX, none, none, some .bitZp, some .andZp, some .rolZp, none,
   some .plp, some .andImm, some .rolAcc, none, some .bitAbs, some .andAbs, some .rolAbs, none]

/-- Row 3 of the opcode map (R64); `none` is the map's `--` (R65). -/
def opcodeRow3 : List (Option Instr) :=
  [some .bmi, some .andIndY, none, none, none, some .andZpX, some .rolZpX, none,
   some .sec, some .andAbsY, none, none, none, some .andAbsX, some .rolAbsX, none]

/-- Row 4 of the opcode map (R64); `none` is the map's `--` (R65). -/
def opcodeRow4 : List (Option Instr) :=
  [some .rti, some .eorIndX, none, none, none, some .eorZp, some .lsrZp, none,
   some .pha, some .eorImm, some .lsrAcc, none, some .jmpAbs, some .eorAbs, some .lsrAbs, none]

/-- Row 5 of the opcode map (R64); `none` is the map's `--` (R65). -/
def opcodeRow5 : List (Option Instr) :=
  [some .bvc, some .eorIndY, none, none, none, some .eorZpX, some .lsrZpX, none,
   some .cli, some .eorAbsY, none, none, none, some .eorAbsX, some .lsrAbsX, none]

/-- Row 6 of the opcode map (R64); `none` is the map's `--` (R65). -/
def opcodeRow6 : List (Option Instr) :=
  [some .rts, some .adcIndX, none, none, none, some .adcZp, some .rorZp, none,
   some .pla, some .adcImm, some .rorAcc, none, some .jmpInd, some .adcAbs, some .rorAbs, none]

/-- Row 7 of the opcode map (R64); `none` is the map's `--` (R65). -/
def opcodeRow7 : List (Option Instr) :=
  [some .bvs, some .adcIndY, none, none, none, some .adcZpX, some .rorZpX, none,
   some .sei, some .adcAbsY, none, none, none, some .adcAbsX, some .rorAbsX, none]

/-- Row 8 of the opcode map (R64); `none` is the map's `--` (R65). -/
def opcodeRow8 : List (Option Instr) :=
  [none, some .staIndX, none, none, some .styZp, some .staZp, some .stxZp, none,
   some .dey, none, some .txa, none, some .styAbs, some .staAbs, some .stxAbs, none]

/-- Row 9 of the opcode map (R64); `none` is the map's `--` (R65). -/
def opcodeRow9 : List (Option Instr) :=
  [some .bcc, some .staIndY, none, none, some .styZpX, some .staZpX, some .stxZpY, none,
   some .tya, some .staAbsY, some .txs, none, none, some .staAbsX, none, none]

/-- Row A of the opcode map (R64); `none` is the map's `--` (R65). -/
def opcodeRowA : List (Option Instr) :=
  [some .ldyImm, some .ldaIndX, some .ldxImm, none, some .ldyZp, some .ldaZp, some .ldxZp, none,
   some .tay, some .ldaImm, some .tax, none, some .ldyAbs, some .ldaAbs, some .ldxAbs, none]

/-- Row B of the opcode map (R64); `none` is the map's `--` (R65). -/
def opcodeRowB : List (Option Instr) :=
  [some .bcs, some .ldaIndY, none, none, some .ldyZpX, some .ldaZpX, some .ldxZpY, none,
   some .clv, some .ldaAbsY, some .tsx, none, some .ldyAbsX, some .ldaAbsX, some .ldxAbsY, none]

/-- Row C of the opcode map (R64); `none` is the map's `--` (R65). -/
def opcodeRowC : List (Option Instr) :=
  [some .cpyImm, some .cmpIndX, none, none, some .cpyZp, some .cmpZp, some .decZp, none,
   some .iny, some .cmpImm, some .dex, none, some .cpyAbs, some .cmpAbs, some .decAbs, none]

/-- Row D of the opcode map (R64); `none` is the map's `--` (R65). -/
def opcodeRowD : List (Option Instr) :=
  [some .bne, some .cmpIndY, none, none, none, some .cmpZpX, some .decZpX, none,
   some .cld, some .cmpAbsY, none, none, none, some .cmpAbsX, some .decAbsX, none]

/-- Row E of the opcode map (R64); `none` is the map's `--` (R65). -/
def opcodeRowE : List (Option Instr) :=
  [some .cpxImm, some .sbcIndX, none, none, some .cpxZp, some .sbcZp, some .incZp, none,
   some .inx, some .sbcImm, some .nop, none, some .cpxAbs, some .sbcAbs, some .incAbs, none]

/-- Row F of the opcode map (R64); `none` is the map's `--` (R65). -/
def opcodeRowF : List (Option Instr) :=
  [some .beq, some .sbcIndY, none, none, none, some .sbcZpX, some .incZpX, none,
   some .sed, some .sbcAbsY, none, none, none, some .sbcAbsX, some .incAbsX, none]

/-- The opcode map by high nibble (R64). -/
def opcodeMap : List (List (Option Instr)) :=
  [opcodeRow0, opcodeRow1, opcodeRow2, opcodeRow3, opcodeRow4, opcodeRow5, opcodeRow6, opcodeRow7]
    ++ [opcodeRow8, opcodeRow9, opcodeRowA, opcodeRowB, opcodeRowC, opcodeRowD, opcodeRowE, opcodeRowF]

/-- `DESCRIPTOR(op)` as the instruction it selects (R60, R82): the cell at row `op[7:4]`, column `op[3:0]` of the map. -/
def decodeOpcode (op : Byte) : Option Instr :=
  ((opcodeMap.getD (op.toNat / 16) []).getD (op.toNat % 16) none)

/-- Decode the instruction at the head of `bytes`, with its operand bytes, and give back the bytes after it (R61). -/
def decode : List Byte → Except DecodeError (MachineCode × List Byte)
  | [] => .error .noBytes
  | op :: rest =>
    match decodeOpcode op with
    | none => .error (.unknownOpcode op)
    | some i =>
      if rest.length < i.length - 1 then .error (.missingOperand i)
      else .ok (⟨i, rest.take (i.length - 1)⟩, rest.drop (i.length - 1))

/-- The first three bytes, the longest instruction, of an instruction whose first `nbits` bits are `w`, byte 0 in bits
7 to 0 and later bytes counting on; every bit above `nbits` is 0. -/
def tableBytes (nbits w : Nat) : List Byte :=
  let v := w % 2 ^ nbits
  [BitVec.ofNat 8 v, BitVec.ofNat 8 (v / 256), BitVec.ofNat 8 (v / 65536)]

/-- The instruction the decoder reads from an opcode-table word of `nbits` bits. -/
def decodeTableWord (nbits w : Nat) : Option Instr :=
  match decode (tableBytes nbits w) with
  | .ok (c, _) => some c.instr
  | .error _ => none

/-! The encoder. -/

/-- The opcode byte of an instruction, from the Encodings line of its rule. -/
def Instr.opcode : Instr → Byte
  -- LDA (R110)
  | .ldaIndX => 0xA1#8
  | .ldaZp => 0xA5#8
  | .ldaImm => 0xA9#8
  | .ldaAbs => 0xAD#8
  | .ldaIndY => 0xB1#8
  | .ldaZpX => 0xB5#8
  | .ldaAbsY => 0xB9#8
  | .ldaAbsX => 0xBD#8
  -- LDX (R111)
  | .ldxImm => 0xA2#8
  | .ldxZp => 0xA6#8
  | .ldxAbs => 0xAE#8
  | .ldxZpY => 0xB6#8
  | .ldxAbsY => 0xBE#8
  -- LDY (R112)
  | .ldyImm => 0xA0#8
  | .ldyZp => 0xA4#8
  | .ldyAbs => 0xAC#8
  | .ldyZpX => 0xB4#8
  | .ldyAbsX => 0xBC#8
  -- STA (R113)
  | .staIndX => 0x81#8
  | .staZp => 0x85#8
  | .staAbs => 0x8D#8
  | .staIndY => 0x91#8
  | .staZpX => 0x95#8
  | .staAbsY => 0x99#8
  | .staAbsX => 0x9D#8
  -- STX (R114)
  | .stxZp => 0x86#8
  | .stxAbs => 0x8E#8
  | .stxZpY => 0x96#8
  -- STY (R115)
  | .styZp => 0x84#8
  | .styAbs => 0x8C#8
  | .styZpX => 0x94#8
  -- TAX (R116)
  | .tax => 0xAA#8
  -- TAY (R117)
  | .tay => 0xA8#8
  -- TXA (R118)
  | .txa => 0x8A#8
  -- TYA (R119)
  | .tya => 0x98#8
  -- TSX (R120)
  | .tsx => 0xBA#8
  -- TXS (R121)
  | .txs => 0x9A#8
  -- ADC (R131)
  | .adcIndX => 0x61#8
  | .adcZp => 0x65#8
  | .adcImm => 0x69#8
  | .adcAbs => 0x6D#8
  | .adcIndY => 0x71#8
  | .adcZpX => 0x75#8
  | .adcAbsY => 0x79#8
  | .adcAbsX => 0x7D#8
  -- SBC (R132)
  | .sbcIndX => 0xE1#8
  | .sbcZp => 0xE5#8
  | .sbcImm => 0xE9#8
  | .sbcAbs => 0xED#8
  | .sbcIndY => 0xF1#8
  | .sbcZpX => 0xF5#8
  | .sbcAbsY => 0xF9#8
  | .sbcAbsX => 0xFD#8
  -- AND (R133)
  | .andIndX => 0x21#8
  | .andZp => 0x25#8
  | .andImm => 0x29#8
  | .andAbs => 0x2D#8
  | .andIndY => 0x31#8
  | .andZpX => 0x35#8
  | .andAbsY => 0x39#8
  | .andAbsX => 0x3D#8
  -- ORA (R134)
  | .oraIndX => 0x01#8
  | .oraZp => 0x05#8
  | .oraImm => 0x09#8
  | .oraAbs => 0x0D#8
  | .oraIndY => 0x11#8
  | .oraZpX => 0x15#8
  | .oraAbsY => 0x19#8
  | .oraAbsX => 0x1D#8
  -- EOR (R135)
  | .eorIndX => 0x41#8
  | .eorZp => 0x45#8
  | .eorImm => 0x49#8
  | .eorAbs => 0x4D#8
  | .eorIndY => 0x51#8
  | .eorZpX => 0x55#8
  | .eorAbsY => 0x59#8
  | .eorAbsX => 0x5D#8
  -- BIT (R136)
  | .bitZp => 0x24#8
  | .bitAbs => 0x2C#8
  -- CMP (R138)
  | .cmpIndX => 0xC1#8
  | .cmpZp => 0xC5#8
  | .cmpImm => 0xC9#8
  | .cmpAbs => 0xCD#8
  | .cmpIndY => 0xD1#8
  | .cmpZpX => 0xD5#8
  | .cmpAbsY => 0xD9#8
  | .cmpAbsX => 0xDD#8
  -- CPX (R139)
  | .cpxImm => 0xE0#8
  | .cpxZp => 0xE4#8
  | .cpxAbs => 0xEC#8
  -- CPY (R140)
  | .cpyImm => 0xC0#8
  | .cpyZp => 0xC4#8
  | .cpyAbs => 0xCC#8
  -- ASL (R150)
  | .aslZp => 0x06#8
  | .aslAcc => 0x0A#8
  | .aslAbs => 0x0E#8
  | .aslZpX => 0x16#8
  | .aslAbsX => 0x1E#8
  -- LSR (R151)
  | .lsrZp => 0x46#8
  | .lsrAcc => 0x4A#8
  | .lsrAbs => 0x4E#8
  | .lsrZpX => 0x56#8
  | .lsrAbsX => 0x5E#8
  -- ROL (R152)
  | .rolZp => 0x26#8
  | .rolAcc => 0x2A#8
  | .rolAbs => 0x2E#8
  | .rolZpX => 0x36#8
  | .rolAbsX => 0x3E#8
  -- ROR (R153)
  | .rorZp => 0x66#8
  | .rorAcc => 0x6A#8
  | .rorAbs => 0x6E#8
  | .rorZpX => 0x76#8
  | .rorAbsX => 0x7E#8
  -- INC (R154)
  | .incZp => 0xE6#8
  | .incAbs => 0xEE#8
  | .incZpX => 0xF6#8
  | .incAbsX => 0xFE#8
  -- DEC (R155)
  | .decZp => 0xC6#8
  | .decAbs => 0xCE#8
  | .decZpX => 0xD6#8
  | .decAbsX => 0xDE#8
  -- INX (R156)
  | .inx => 0xE8#8
  -- INY (R157)
  | .iny => 0xC8#8
  -- DEX (R158)
  | .dex => 0xCA#8
  -- DEY (R159)
  | .dey => 0x88#8
  -- PHA (R176)
  | .pha => 0x48#8
  -- PHP (R177)
  | .php => 0x08#8
  -- PLA (R178)
  | .pla => 0x68#8
  -- PLP (R179)
  | .plp => 0x28#8
  -- BCC (R191)
  | .bcc => 0x90#8
  -- BCS (R192)
  | .bcs => 0xB0#8
  -- BEQ (R193)
  | .beq => 0xF0#8
  -- BNE (R194)
  | .bne => 0xD0#8
  -- BMI (R195)
  | .bmi => 0x30#8
  -- BPL (R196)
  | .bpl => 0x10#8
  -- BVC (R197)
  | .bvc => 0x50#8
  -- BVS (R198)
  | .bvs => 0x70#8
  -- JMP (R199)
  | .jmpAbs => 0x4C#8
  | .jmpInd => 0x6C#8
  -- JSR (R201)
  | .jsr => 0x20#8
  -- RTS (R202)
  | .rts => 0x60#8
  -- RTI (R203)
  | .rti => 0x40#8
  -- BRK (R204)
  | .brk => 0x00#8
  -- NOP (R205)
  | .nop => 0xEA#8
  -- CLC (R220)
  | .clc => 0x18#8
  -- CLD (R221)
  | .cld => 0xD8#8
  -- CLI (R222)
  | .cli => 0x58#8
  -- CLV (R223)
  | .clv => 0xB8#8
  -- SEC (R224)
  | .sec => 0x38#8
  -- SED (R225)
  | .sed => 0xF8#8
  -- SEI (R226)
  | .sei => 0x78#8

/-- The bytes of an instruction with its operand: the opcode byte, then the operand bytes (R61). -/
def encode (c : MachineCode) : List Byte := c.instr.opcode :: c.operand

end Sys2Proof
end

