-- ==== Sys2Proof/Config.lean ====
section
/-! DEFINITION. The fixed parameters of the core (00_scope.md R7). The open parameters of R7 are arguments, not
constants: `BUS` (Machine/Bus.lean), `OBSERVER`, `LOAD_BASE` and `INIT_MEM` (Machine/HostActions.lean). -/

namespace Sys2Proof.Config

/-- `STACK_BASE` (R7, R29, D3): the stack page is 0x0100 to 0x01FF. -/
def stackBase : Addr := 0x0100#16

/-- `SP_RESET` (R7, R29, D4). -/
def spReset : Byte := 0xFD#8

/-- `P_RESET` (R7, R27, D5): I = 1, U = 1, every other flag 0. -/
def pReset : Byte := 0x24#8

/-- `RESET_VECTOR` (R7, R260): the low byte's address. -/
def resetVector : Addr := 0xFFFC#16

/-- `HALT_OPCODE` (R7, R204, D8). -/
def haltOpcode : Byte := 0x00#8

/-- What an address that a memory does not list reads as. DESIGN CHOICE, unsafe (log entry 1): `INIT_MEM` is an
open parameter (R7, R261); a memory that lists its bytes gives any `INIT_MEM`, this constant is the rest of it. -/
def unlistedByte : Byte := 0x00#8

end Sys2Proof.Config
end

