-- ==== Sys2Proof/Machine/Memory.lean ====
section
/-! DEFINITION. The 65,536 bytes behind the memory port (20_memory.md R41) as a list of cells in one canonical form:
addresses strictly rising and below 65,536, and no cell that holds what an unlisted address reads as. -/

namespace Sys2Proof.Machine

/-- The memory: the cells whose byte differs from `Config.unlistedByte`, lowest address first. -/
abbrev Memory := List Host.Cell

/-- The byte at `a`: the listed byte, else `Config.unlistedByte` (R41, R53; log entry 1). -/
def Memory.read : Memory → Addr → Byte
  | [], _ => Config.unlistedByte
  | (k, v) :: m, a => if k = a.toNat then v else Memory.read m a

/-- The memory without any cell at address `n`. -/
def Memory.without : Memory → Nat → Memory
  | [], _ => []
  | (k, v) :: m, n => if k = n then Memory.without m n else (k, v) :: Memory.without m n

/-- The cell `(n, v)` put before the first cell of a higher address. -/
def Memory.place : Memory → Nat → Byte → Memory
  | [], n, v => [(n, v)]
  | (k, w) :: m, n, v => if n < k then (n, v) :: (k, w) :: m else (k, w) :: Memory.place m n v

/-- `M[a] <- v` and nothing else (R42). Writing the unlisted byte removes the cell, so the form stays canonical. -/
def Memory.write (m : Memory) (a : Addr) (v : Byte) : Memory :=
  if v = Config.unlistedByte then Memory.without m a.toNat
  else Memory.place (Memory.without m a.toNat) a.toNat v

/-- Canonical, with every address at least `lo`. -/
def Memory.wfFrom : Nat → Memory → Bool
  | _, [] => true
  | lo, (k, v) :: m =>
      decide (lo ≤ k) && decide (k < 65536) && decide (v ≠ Config.unlistedByte) && Memory.wfFrom (k + 1) m

/-- The canonical form: strictly rising addresses of the space (R41), no cell holding the unlisted byte. -/
def Memory.wf (m : Memory) : Bool := Memory.wfFrom 0 m

end Sys2Proof.Machine
end

