-- ==== Sys2Proof/Machine/State.lean ====
section
/-! DEFINITION. The state vector (10_state.md R20), the stop reasons, and the state right after reset (R35, R260).
Memory's operations are in Machine/Memory.lean, everything that acts on a state in the other files of Machine/. -/

namespace Sys2Proof.Machine

/-- The information of a fatal condition (60_exceptions.md R230, R232, D22). -/
inductive FatalInfo where
  /-- `UnknownOpcode {byte, address}`: the fetched byte has no descriptor (R230). -/
  | unknownOpcode (byte : Byte) (address : Addr)
  /-- `NoAddressing {mode, byte, address}`: an effective address was asked of a mode that has none (R98, R232). -/
  | noAddressing (mode : AddressingMode) (byte : Byte) (address : Addr)
  deriving DecidableEq, Repr

/-- `Run` (10_state.md R20, R30). R35 and R261 say that Run is "not Running until the first reset": that condition has
a name of its own here, `poweredUp` (log entry 5). -/
inductive Run where
  | poweredUp
  | running
  | halted
  | fatal (info : FatalInfo)
  deriving DecidableEq, Repr

/-- One access of the core to the memory port, with the byte that passed (20_memory.md R40, R47). -/
inductive Access where
  | read (address : Addr) (value : Byte)
  | write (address : Addr) (value : Byte)
  deriving DecidableEq, Repr

/-- The state vector of R20 with the memory behind the port (R40). `port` is the model's own record of the accesses
of the last step or reset, in order, so that the access list of R47 can be stated (log entry 4). -/
structure State where
  a : Byte
  x : Byte
  y : Byte
  p : Byte
  sp : Byte
  pc : Addr
  run : Run
  mem : Memory
  port : List Access
  deriving DecidableEq, Repr

/-- Why the machine stops. Each carries or names what the spec says is left behind. -/
inductive Fault where
  /-- Raised by the step at decode when the fetched byte is one of the 105 undefined bytes (R65, R230); `left` is the
  state left behind, its `run` the Fatal of R231. Safe: the spec itself stops here (D1). -/
  | unknownOpcode (byte : Byte) (address : Addr) (left : State)
  /-- Raised by the resolver for NoneAddressing, with the fetched opcode byte and its address (R98, R232); no instruction
  reaches it. Safe. -/
  | noAddressing (mode : AddressingMode) (byte : Byte) (address : Addr) (left : State)
  /-- A step while Run = Halted: there is no next state (R30, R233, ID3 'stuck'). Safe. -/
  | halted
  /-- A step while Run = Fatal(info) (R30, R231, ID4). Safe. -/
  | alreadyFatal (info : FatalInfo)
  deriving DecidableEq, Repr

/-- What has no meaning. -/
inductive Refusal where
  /-- An instruction without a meaning yet, by its mnemonic. No arm of `exec` answers it. Safe. -/
  | notModelled (mnemonic : String)
  /-- A step before the first reset (R263, ID5, D29). Safe. -/
  | stepBeforeReset
  /-- A reset while the loop runs (R260, ID6, D29). Safe. -/
  | resetWhileRunning
  deriving DecidableEq, Repr

/-- The outcome of an instruction or a step. -/
abbrev Result := Host.Outcome State Fault Refusal

/-- The state after power-up and reset (R35, R260) of a core whose `INIT_MEM` lists nothing (log entries 1 and 10): PC
is the word at the reset vector, and the port has seen the two reads of the vector, low byte first (D28). -/
def State.reset : State where
  a := 0x00#8
  x := 0x00#8
  y := 0x00#8
  p := Config.pReset
  sp := Config.spReset
  pc := 0x0000#16
  run := .running
  mem := []
  port := [.read 0xFFFC#16 0x00#8, .read 0xFFFD#16 0x00#8]

end Sys2Proof.Machine
end

