-- ==== Sys2Proof/Machine/Flags.lean ====
section
/-! DEFINITION. The status byte P and every flag computation of the spec: the layout (10_state.md R25), UpdateZN
(40_dispatch_and_addressing.md R100), the adder (42_arithmetic_logic.md R130), BIT (R136), Compare (R137), the shifts
and rotates (43_shift_incdec.md R150 to R153), and the bytes PHP pushes and PLP and RTI load (44_stack.md R177, R179). -/

namespace Sys2Proof.Machine

/-- The eight flags of P (R25). -/
inductive Flag where
  | c | z | i | d | b | u | v | n
  deriving DecidableEq, Repr

/-- The bit position of a flag in P (R25, D2). -/
def Flag.bit : Flag → Nat
  | .c => 0
  | .z => 1
  | .i => 2
  | .d => 3
  | .b => 4
  | .u => 5
  | .v => 6
  | .n => 7

/-- The byte with only that flag's bit set. -/
def Flag.mask (f : Flag) : Byte := 1#8 <<< f.bit

/-- `P.f` read from a status byte (R10, R25). -/
def getFlag (p : Byte) (f : Flag) : Bool := p.getLsbD f.bit

/-- `P.f <- b` on a status byte; the other seven bits stay (R10, R25). -/
def setFlag (p : Byte) (f : Flag) (b : Bool) : Byte := if b then p ||| f.mask else p &&& ~~~f.mask

/-- `UpdateZN(r)` on a status byte (R100). -/
def statusZN (p r : Byte) : Byte := setFlag (setFlag p .z (decide (r = 0x00#8))) .n r.msb

/-- The exact 9-bit sum `A + m + P.C` (R130). -/
def addSum (a m : Byte) (c : Bool) : Nat := a.toNat + m.toNat + c.toNat

/-- `r = s mod 256` (R130). -/
def addResult (a m : Byte) (c : Bool) : Byte := BitVec.ofNat 8 (addSum a m c)

/-- The carry out: `s > 255` (R130). -/
def addCarry (a m : Byte) (c : Bool) : Bool := decide (addSum a m c > 255)

/-- Signed overflow: `(A[7] = m[7]) and (r[7] != m[7])` (R130). -/
def addOverflow (a m : Byte) (c : Bool) : Bool := (a.msb == m.msb) && ((addResult a m c).msb != m.msb)

/-- P after `AddToA(m)` (R130): C, V, then Z and N of the result. D is not read. -/
def statusAdd (p a m : Byte) : Byte :=
  let c := getFlag p .c
  statusZN (setFlag (setFlag p .c (addCarry a m c)) .v (addOverflow a m c)) (addResult a m c)

/-- SBC's transformed operand `(0 -8 m) -8 1` (R132). -/
def sbcOperand (m : Byte) : Byte := (0x00#8 - m) - 0x01#8

/-- P after BIT (R136): Z from `A & m`, V and N from bits 6 and 7 of `m`. -/
def statusBit (p a m : Byte) : Byte :=
  setFlag (setFlag (setFlag p .z (decide (a &&& m = 0x00#8))) .v (m.getLsbD 6)) .n (m.getLsbD 7)

/-- P after `Compare(reg, m)` (R137). -/
def statusCompare (p reg m : Byte) : Byte :=
  statusZN (setFlag p .c (decide (m.toNat ≤ reg.toNat))) (reg - m)

/-- A read-modify-write function `f` of R160: from the operand and P to the result and P, of which it may write C. -/
abbrev ShiftFn := Byte → Byte → Byte × Byte

/-- ASL's `f` (R150). -/
def aslFn : ShiftFn := fun v p => (v <<< 1, setFlag p .c (v.getLsbD 7))

/-- LSR's `f` (R151): the carry is old bit 0 (C1, D18). -/
def lsrFn : ShiftFn := fun v p => (v >>> 1, setFlag p .c (v.getLsbD 0))

/-- ROL's `f` (R152): the old carry enters at bit 0. -/
def rolFn : ShiftFn := fun v p =>
  ((v <<< 1) ||| (BitVec.ofBool (getFlag p .c)).zeroExtend 8, setFlag p .c (v.getLsbD 7))

/-- ROR's `f` (R153): the old carry enters at bit 7, the new carry is old bit 0 (C1, D18). -/
def rorFn : ShiftFn := fun v p =>
  ((v >>> 1) ||| ((BitVec.ofBool (getFlag p .c)).zeroExtend 8 <<< 7), setFlag p .c (v.getLsbD 0))

/-- INC's `f` (R154). -/
def incFn : ShiftFn := fun v p => (v + 0x01#8, p)

/-- DEC's `f` (R155). -/
def decFn : ShiftFn := fun v p => (v - 0x01#8, p)

/-- The byte PHP pushes: `P | 0x30` (R177, D10). -/
def pushedStatus (p : Byte) : Byte := p ||| 0x30#8

/-- What PLP and RTI load into P from `v`: `(v & 0xCF) | 0x20` (R179, R203, D11). -/
def pulledStatus (v : Byte) : Byte := (v &&& 0xCF#8) ||| 0x20#8

/-- `P.f` of a state (R10). -/
def State.flag (s : State) (f : Flag) : Bool := getFlag s.p f

/-- `P.f <- b` (R10). -/
def State.writeFlag (s : State) (f : Flag) (b : Bool) : State := { s with p := setFlag s.p f b }

/-- `UpdateZN(r)`, the single shared flag-update path (R100). -/
def State.updateZN (s : State) (r : Byte) : State := { s with p := statusZN s.p r }

end Sys2Proof.Machine
end

