-- ==== Sys2Proof/Machine/Bits.lean ====
section
/-! DEFINITION. Extension, byte order and joining (00_scope.md R8, R9). -/

namespace Sys2Proof

/-- `zext_16(b)` (R9). -/
def zext16 (b : Byte) : Addr := b.zeroExtend 16

/-- `sext_16(b)` (R9): the byte read as two's complement, modulo 65,536. -/
def sext16 (b : Byte) : Addr := b.signExtend 16

/-- `hi ++ lo` (R8): the word `hi*256 + lo`. -/
def joinBytes (hi lo : Byte) : Addr := hi ++ lo

/-- `w[7:0]` (R8). -/
def lowByte (w : Addr) : Byte := w.extractLsb' 0 8

/-- `w[15:8]` (R8). -/
def highByte (w : Addr) : Byte := w.extractLsb' 8 8

end Sys2Proof
end

