-- ==== Sys2Proof/Machine/Bus.lean ====
section
/-! DEFINITION. The memory port as the parameter `BUS = (read, write)` (20_memory.md R40, R42, D17). A bus keeps what
it remembers in a `Memory`; a read may change it (a port with side effects, R49). `exec` and `step` use
`Bus.plainRam`, the default; every shared operation takes the bus as an argument (log entry 2). -/

namespace Sys2Proof.Machine

/-- The two operations of the memory port (R40). -/
structure Bus where
  /-- `read(address) -> u8`: the byte, and the memory after the read. -/
  read : Memory → Addr → Byte × Memory
  /-- `write(address, value)`: the memory after the write. -/
  write : Memory → Addr → Byte → Memory

/-- The default port (R42, D17): `read(a)` returns `M[a]`, `write(a, v)` sets `M[a] <- v` and nothing else. -/
def Bus.plainRam : Bus where
  read m a := (m.read a, m)
  write m a v := m.write a v

end Sys2Proof.Machine
end

