-- ==== Sys2Proof/Machine/Ops.lean ====
section
/-! DEFINITION. The named operations over memory, stack and registers: MemRead and MemWrite (00_scope.md R11), the
stack engine (44_stack.md R170 to R174), and the one exception of this core, `raise Fatal` (60_exceptions.md R231), with
the return from a frame that software built beside it (`pullStatus` and `pop16`, used by RTI, R203). Every operation
takes the bus (20_memory.md R42) and adds its accesses to the state's `port` (R47). -/

namespace Sys2Proof.Machine

/-- The state with one more access on record (R47). -/
def State.logged (s : State) (e : Access) : State := { s with port := s.port ++ [e] }

/-- `MemRead(addr, 1)` (R11). -/
def State.memRead (bus : Bus) (addr : Addr) (s : State) : Byte × State :=
  ((bus.read s.mem addr).1,
    State.logged { s with mem := (bus.read s.mem addr).2 } (.read addr (bus.read s.mem addr).1))

/-- `MemWrite(addr, 1, v)` (R11). -/
def State.memWrite (bus : Bus) (addr : Addr) (v : Byte) (s : State) : State :=
  State.logged { s with mem := bus.write s.mem addr v } (.write addr v)

/-- Two single reads, the low byte at `first` and then the high byte at `second`, joined (R11, R43). -/
def State.memReadPair (bus : Bus) (first second : Addr) (s : State) : Addr × State :=
  let (lo, s) := s.memRead bus first
  let (hi, s) := s.memRead bus second
  (joinBytes hi lo, s)

/-- `MemRead(addr, 2)`: the second byte at `addr +16 1` (R11, R44, D13). -/
def State.memRead16 (bus : Bus) (addr : Addr) (s : State) : Addr × State := s.memReadPair bus addr (addr + 1)

/-- The address of the byte a stack pointer points to: `STACK_BASE +16 zext_16(SP)` (R29, R170). -/
def stackAddr (sp : Byte) : Addr := Config.stackBase + zext16 sp

/-- `Push(v)` (R171). -/
def State.push (bus : Bus) (v : Byte) (s : State) : State :=
  let s := s.memWrite bus (stackAddr s.sp) v
  { s with sp := s.sp - 1 }

/-- `Pop()` (R172). -/
def State.pop (bus : Bus) (s : State) : Byte × State :=
  let s := { s with sp := s.sp + 1 }
  s.memRead bus (stackAddr s.sp)

/-- `Push16(w)`: the high byte first (R173). -/
def State.push16 (bus : Bus) (w : Addr) (s : State) : State := (s.push bus (highByte w)).push bus (lowByte w)

/-- `Pop16()`: the low byte first (R174, C2). -/
def State.pop16 (bus : Bus) (s : State) : Addr × State :=
  let (lo, s) := s.pop bus
  let (hi, s) := s.pop bus
  (joinBytes hi lo, s)

/-- What `raise Fatal(kind, info)` leaves behind (R231): Run is set, no further phase of the step runs. -/
def State.raised (info : FatalInfo) (s : State) : State := { s with run := .fatal info }

/-- `raise Fatal(kind, info)` (R231): the machine stops with the fault of that kind. -/
def raiseFatal (info : FatalInfo) (s : State) : Result :=
  match info with
  | .unknownOpcode byte address => .fault (.unknownOpcode byte address (s.raised info))
  | .noAddressing mode byte address => .fault (.noAddressing mode byte address (s.raised info))

/-- `halt` (R204, R233): Run becomes Halted and nothing else changes. -/
def State.halt (s : State) : State := { s with run := .halted }

end Sys2Proof.Machine
end

