-- ==== Sys2Proof/Machine/Operands.lean ====
section
/-! DEFINITION. The addressing resolver (40_dispatch_and_addressing.md R88 to R99), one definition for each mode, and
the three shapes of an instruction over it: an addressed instruction, one that reads its operand (R99), and one that
reads, modifies and writes it (43_shift_incdec.md R160). Each takes the fetched opcode byte `op`, which the fatal
condition of R98 records. During execute `s.pc` is `p`, the address of the first operand byte (R81). -/

namespace Sys2Proof.Machine

/-- Immediate: `EA = p`, no read (R89). -/
def eaImmediate (s : State) : Addr × State := (s.pc, s)

/-- ZeroPage (R90). -/
def eaZeroPage (bus : Bus) (s : State) : Addr × State :=
  let (b, s) := s.memRead bus s.pc
  (zext16 b, s)

/-- ZeroPage_X: the sum wraps in 0 to 255 (R91). -/
def eaZeroPageX (bus : Bus) (s : State) : Addr × State :=
  let (b, s) := s.memRead bus s.pc
  (zext16 (b + s.x), s)

/-- ZeroPage_Y: the sum wraps in 0 to 255 (R92). -/
def eaZeroPageY (bus : Bus) (s : State) : Addr × State :=
  let (b, s) := s.memRead bus s.pc
  (zext16 (b + s.y), s)

/-- Absolute (R93). -/
def eaAbsolute (bus : Bus) (s : State) : Addr × State := s.memRead16 bus s.pc

/-- Absolute_X: the sum wraps in 16 bits (R94). -/
def eaAbsoluteX (bus : Bus) (s : State) : Addr × State :=
  let (w, s) := s.memRead16 bus s.pc
  (w + zext16 s.x, s)

/-- Absolute_Y: the sum wraps in 16 bits (R95). -/
def eaAbsoluteY (bus : Bus) (s : State) : Addr × State :=
  let (w, s) := s.memRead16 bus s.pc
  (w + zext16 s.y, s)

/-- The word at a zero-page pointer; the high byte's address stays in page 0 (R96, R97, D12). -/
def State.readZeroPagePointer (bus : Bus) (ptr : Byte) (s : State) : Addr × State :=
  s.memReadPair bus (zext16 ptr) (zext16 (ptr + 1))

/-- Indirect_X, `(zp,X)` (R96). -/
def eaIndirectX (bus : Bus) (s : State) : Addr × State :=
  let (b, s) := s.memRead bus s.pc
  s.readZeroPagePointer bus (b + s.x)

/-- Indirect_Y, `(zp),Y` (R97). -/
def eaIndirectY (bus : Bus) (s : State) : Addr × State :=
  let (b, s) := s.memRead bus s.pc
  let (w, s) := s.readZeroPagePointer bus b
  (w + zext16 s.y, s)

/-- `EA(mode)` (R88): the effective address and the state after exactly the reads of its rule; `none` for
NoneAddressing (R98). -/
def resolve (bus : Bus) (mode : AddressingMode) (s : State) : Option (Addr × State) :=
  match mode with
  | .immediate => some (eaImmediate s)
  | .zeroPage => some (eaZeroPage bus s)
  | .zeroPageX => some (eaZeroPageX bus s)
  | .zeroPageY => some (eaZeroPageY bus s)
  | .absolute => some (eaAbsolute bus s)
  | .absoluteX => some (eaAbsoluteX bus s)
  | .absoluteY => some (eaAbsoluteY bus s)
  | .indirectX => some (eaIndirectX bus s)
  | .indirectY => some (eaIndirectY bus s)
  | .noneAddressing => none

/-- The fatal condition of R98: the offending mode, the fetched opcode byte `op`, and its address `a0`, which during
execute is `PC -16 1` (R81; log entry 7). -/
def noAddressingInfo (op : Byte) (mode : AddressingMode) (s : State) : FatalInfo :=
  .noAddressing mode op (s.pc - 1)

/-- An addressed instruction: `EA(mode)` once, then `k` on it (R99, D26); NoneAddressing is fatal (R98). -/
def withEA (bus : Bus) (op : Byte) (mode : AddressingMode) (s : State) (k : Addr → State → Result) : Result :=
  match resolve bus mode s with
  | some (ea, s) => k ea s
  | none => raiseFatal (noAddressingInfo op mode s) s

/-- `v <- Operand(mode)`, then `k` on it (R99). -/
def withOperand (bus : Bus) (op : Byte) (mode : AddressingMode) (s : State) (k : Byte → State → Result) : Result :=
  withEA bus op mode s fun ea s =>
    let (v, s) := s.memRead bus ea
    k v s

/-- `MemWrite(EA(mode), 1, v)`: the target is not read (R99). -/
def store (bus : Bus) (op : Byte) (mode : AddressingMode) (v : State → Byte) (s : State) : Result :=
  withEA bus op mode s fun ea s => .next (s.memWrite bus ea (v s))

/-- The read-modify-write of a memory operand (R160): one read, one write at the same EA, then UpdateZN. -/
def readModifyWrite (bus : Bus) (op : Byte) (mode : AddressingMode) (f : ShiftFn) (s : State) : Result :=
  withEA bus op mode s fun ea s =>
    let (v, s) := s.memRead bus ea
    let (r, p) := f v s.p
    let s := { s with p := p }
    let s := s.memWrite bus ea r
    .next (s.updateZN r)

/-- The accumulator form of R160 (R101): no port access and no EA. -/
def modifyA (f : ShiftFn) (s : State) : Result :=
  let (r, p) := f s.a s.p
  .next (State.updateZN { s with a := r, p := p } r)

end Sys2Proof.Machine
end

