-- ==== Sys2Proof/Machine/Arithmetic.lean ====
section
/-! DEFINITION. Arithmetic, logic, bit test and compare (42_arithmetic_logic.md). Each instruction's rule once (`op…`), over the
bus, the fetched opcode byte, which the fatal condition of R98 records, and the mode; and for each row of the opcode
table one meaning of its own (`exec…`), on plain RAM. -/

namespace Sys2Proof.Machine

/-- `AddToA(m)` (R130), the shared path of ADC and SBC. D is ignored. -/
def State.addToA (m : Byte) (s : State) : State :=
  { s with a := addResult s.a m (s.flag .c), p := statusAdd s.p s.a m }

/-- ADC (R131): `m <- Operand(mode); AddToA(m)`. -/
def opAdc (bus : Bus) (op : Byte) (mode : AddressingMode) (s : State) : Result :=
  withOperand bus op mode s fun m s => .next (s.addToA m)

/-- SBC (R132): `m <- Operand(mode); AddToA((0 -8 m) -8 1)`. -/
def opSbc (bus : Bus) (op : Byte) (mode : AddressingMode) (s : State) : Result :=
  withOperand bus op mode s fun m s => .next (s.addToA (sbcOperand m))

/-- AND (R133): `A <- A & m; UpdateZN(A)`. -/
def opAnd (bus : Bus) (op : Byte) (mode : AddressingMode) (s : State) : Result :=
  withOperand bus op mode s fun m s => .next (State.updateZN { s with a := s.a &&& m } (s.a &&& m))

/-- ORA (R134): `A <- A | m; UpdateZN(A)`. -/
def opOra (bus : Bus) (op : Byte) (mode : AddressingMode) (s : State) : Result :=
  withOperand bus op mode s fun m s => .next (State.updateZN { s with a := s.a ||| m } (s.a ||| m))

/-- EOR (R135): `A <- A ^ m; UpdateZN(A)`. -/
def opEor (bus : Bus) (op : Byte) (mode : AddressingMode) (s : State) : Result :=
  withOperand bus op mode s fun m s => .next (State.updateZN { s with a := s.a ^^^ m } (s.a ^^^ m))

/-- BIT (R136): Z from `A & m`, V and N from bits 6 and 7 of `m`; no register is written. -/
def opBit (bus : Bus) (op : Byte) (mode : AddressingMode) (s : State) : Result :=
  withOperand bus op mode s fun m s => .next { s with p := statusBit s.p s.a m }

/-- CMP (R138): `m <- Operand(mode); Compare(A, m)`. -/
def opCmp (bus : Bus) (op : Byte) (mode : AddressingMode) (s : State) : Result :=
  withOperand bus op mode s fun m s => .next { s with p := statusCompare s.p s.a m }

/-- CPX (R139): `m <- Operand(mode); Compare(X, m)`. -/
def opCpx (bus : Bus) (op : Byte) (mode : AddressingMode) (s : State) : Result :=
  withOperand bus op mode s fun m s => .next { s with p := statusCompare s.p s.x m }

/-- CPY (R140): `m <- Operand(mode); Compare(Y, m)`. -/
def opCpy (bus : Bus) (op : Byte) (mode : AddressingMode) (s : State) : Result :=
  withOperand bus op mode s fun m s => .next { s with p := statusCompare s.p s.y m }

/-- 0x61, ADC ($nn,X) (R131). -/
def execAdcIndX (s : State) : Result := opAdc .plainRam 0x61#8 .indirectX s

/-- 0x65, ADC $nn (R131). -/
def execAdcZp (s : State) : Result := opAdc .plainRam 0x65#8 .zeroPage s

/-- 0x69, ADC #$nn (R131). -/
def execAdcImm (s : State) : Result := opAdc .plainRam 0x69#8 .immediate s

/-- 0x6D, ADC $nnnn (R131). -/
def execAdcAbs (s : State) : Result := opAdc .plainRam 0x6D#8 .absolute s

/-- 0x71, ADC ($nn),Y (R131). -/
def execAdcIndY (s : State) : Result := opAdc .plainRam 0x71#8 .indirectY s

/-- 0x75, ADC $nn,X (R131). -/
def execAdcZpX (s : State) : Result := opAdc .plainRam 0x75#8 .zeroPageX s

/-- 0x79, ADC $nnnn,Y (R131). -/
def execAdcAbsY (s : State) : Result := opAdc .plainRam 0x79#8 .absoluteY s

/-- 0x7D, ADC $nnnn,X (R131). -/
def execAdcAbsX (s : State) : Result := opAdc .plainRam 0x7D#8 .absoluteX s

/-- 0xE1, SBC ($nn,X) (R132). -/
def execSbcIndX (s : State) : Result := opSbc .plainRam 0xE1#8 .indirectX s

/-- 0xE5, SBC $nn (R132). -/
def execSbcZp (s : State) : Result := opSbc .plainRam 0xE5#8 .zeroPage s

/-- 0xE9, SBC #$nn (R132). -/
def execSbcImm (s : State) : Result := opSbc .plainRam 0xE9#8 .immediate s

/-- 0xED, SBC $nnnn (R132). -/
def execSbcAbs (s : State) : Result := opSbc .plainRam 0xED#8 .absolute s

/-- 0xF1, SBC ($nn),Y (R132). -/
def execSbcIndY (s : State) : Result := opSbc .plainRam 0xF1#8 .indirectY s

/-- 0xF5, SBC $nn,X (R132). -/
def execSbcZpX (s : State) : Result := opSbc .plainRam 0xF5#8 .zeroPageX s

/-- 0xF9, SBC $nnnn,Y (R132). -/
def execSbcAbsY (s : State) : Result := opSbc .plainRam 0xF9#8 .absoluteY s

/-- 0xFD, SBC $nnnn,X (R132). -/
def execSbcAbsX (s : State) : Result := opSbc .plainRam 0xFD#8 .absoluteX s

/-- 0x21, AND ($nn,X) (R133). -/
def execAndIndX (s : State) : Result := opAnd .plainRam 0x21#8 .indirectX s

/-- 0x25, AND $nn (R133). -/
def execAndZp (s : State) : Result := opAnd .plainRam 0x25#8 .zeroPage s

/-- 0x29, AND #$nn (R133). -/
def execAndImm (s : State) : Result := opAnd .plainRam 0x29#8 .immediate s

/-- 0x2D, AND $nnnn (R133). -/
def execAndAbs (s : State) : Result := opAnd .plainRam 0x2D#8 .absolute s

/-- 0x31, AND ($nn),Y (R133). -/
def execAndIndY (s : State) : Result := opAnd .plainRam 0x31#8 .indirectY s

/-- 0x35, AND $nn,X (R133). -/
def execAndZpX (s : State) : Result := opAnd .plainRam 0x35#8 .zeroPageX s

/-- 0x39, AND $nnnn,Y (R133). -/
def execAndAbsY (s : State) : Result := opAnd .plainRam 0x39#8 .absoluteY s

/-- 0x3D, AND $nnnn,X (R133). -/
def execAndAbsX (s : State) : Result := opAnd .plainRam 0x3D#8 .absoluteX s

/-- 0x01, ORA ($nn,X) (R134). -/
def execOraIndX (s : State) : Result := opOra .plainRam 0x01#8 .indirectX s

/-- 0x05, ORA $nn (R134). -/
def execOraZp (s : State) : Result := opOra .plainRam 0x05#8 .zeroPage s

/-- 0x09, ORA #$nn (R134). -/
def execOraImm (s : State) : Result := opOra .plainRam 0x09#8 .immediate s

/-- 0x0D, ORA $nnnn (R134). -/
def execOraAbs (s : State) : Result := opOra .plainRam 0x0D#8 .absolute s

/-- 0x11, ORA ($nn),Y (R134). -/
def execOraIndY (s : State) : Result := opOra .plainRam 0x11#8 .indirectY s

/-- 0x15, ORA $nn,X (R134). -/
def execOraZpX (s : State) : Result := opOra .plainRam 0x15#8 .zeroPageX s

/-- 0x19, ORA $nnnn,Y (R134). -/
def execOraAbsY (s : State) : Result := opOra .plainRam 0x19#8 .absoluteY s

/-- 0x1D, ORA $nnnn,X (R134). -/
def execOraAbsX (s : State) : Result := opOra .plainRam 0x1D#8 .absoluteX s

/-- 0x41, EOR ($nn,X) (R135). -/
def execEorIndX (s : State) : Result := opEor .plainRam 0x41#8 .indirectX s

/-- 0x45, EOR $nn (R135). -/
def execEorZp (s : State) : Result := opEor .plainRam 0x45#8 .zeroPage s

/-- 0x49, EOR #$nn (R135). -/
def execEorImm (s : State) : Result := opEor .plainRam 0x49#8 .immediate s

/-- 0x4D, EOR $nnnn (R135). -/
def execEorAbs (s : State) : Result := opEor .plainRam 0x4D#8 .absolute s

/-- 0x51, EOR ($nn),Y (R135). -/
def execEorIndY (s : State) : Result := opEor .plainRam 0x51#8 .indirectY s

/-- 0x55, EOR $nn,X (R135). -/
def execEorZpX (s : State) : Result := opEor .plainRam 0x55#8 .zeroPageX s

/-- 0x59, EOR $nnnn,Y (R135). -/
def execEorAbsY (s : State) : Result := opEor .plainRam 0x59#8 .absoluteY s

/-- 0x5D, EOR $nnnn,X (R135). -/
def execEorAbsX (s : State) : Result := opEor .plainRam 0x5D#8 .absoluteX s

/-- 0x24, BIT $nn (R136). -/
def execBitZp (s : State) : Result := opBit .plainRam 0x24#8 .zeroPage s

/-- 0x2C, BIT $nnnn (R136). -/
def execBitAbs (s : State) : Result := opBit .plainRam 0x2C#8 .absolute s

/-- 0xC1, CMP ($nn,X) (R138). -/
def execCmpIndX (s : State) : Result := opCmp .plainRam 0xC1#8 .indirectX s

/-- 0xC5, CMP $nn (R138). -/
def execCmpZp (s : State) : Result := opCmp .plainRam 0xC5#8 .zeroPage s

/-- 0xC9, CMP #$nn (R138). -/
def execCmpImm (s : State) : Result := opCmp .plainRam 0xC9#8 .immediate s

/-- 0xCD, CMP $nnnn (R138). -/
def execCmpAbs (s : State) : Result := opCmp .plainRam 0xCD#8 .absolute s

/-- 0xD1, CMP ($nn),Y (R138). -/
def execCmpIndY (s : State) : Result := opCmp .plainRam 0xD1#8 .indirectY s

/-- 0xD5, CMP $nn,X (R138). -/
def execCmpZpX (s : State) : Result := opCmp .plainRam 0xD5#8 .zeroPageX s

/-- 0xD9, CMP $nnnn,Y (R138). -/
def execCmpAbsY (s : State) : Result := opCmp .plainRam 0xD9#8 .absoluteY s

/-- 0xDD, CMP $nnnn,X (R138). -/
def execCmpAbsX (s : State) : Result := opCmp .plainRam 0xDD#8 .absoluteX s

/-- 0xE0, CPX #$nn (R139). -/
def execCpxImm (s : State) : Result := opCpx .plainRam 0xE0#8 .immediate s

/-- 0xE4, CPX $nn (R139). -/
def execCpxZp (s : State) : Result := opCpx .plainRam 0xE4#8 .zeroPage s

/-- 0xEC, CPX $nnnn (R139). -/
def execCpxAbs (s : State) : Result := opCpx .plainRam 0xEC#8 .absolute s

/-- 0xC0, CPY #$nn (R140). -/
def execCpyImm (s : State) : Result := opCpy .plainRam 0xC0#8 .immediate s

/-- 0xC4, CPY $nn (R140). -/
def execCpyZp (s : State) : Result := opCpy .plainRam 0xC4#8 .zeroPage s

/-- 0xCC, CPY $nnnn (R140). -/
def execCpyAbs (s : State) : Result := opCpy .plainRam 0xCC#8 .absolute s

end Sys2Proof.Machine
end

