-- ==== Sys2Proof/Machine/StackInstr.lean ====
section
/-! DEFINITION. Stack instructions (44_stack.md). Each instruction's rule once over the bus (`op…`), and
for each row of the opcode table one meaning of its own (`exec…`), on plain RAM. -/

namespace Sys2Proof.Machine

/-- PHA (R176): `Push(A)`. -/
def opPha (bus : Bus) (s : State) : Result := .next (s.push bus s.a)

/-- PHP (R177): `Push(P | 0x30)`; P itself stays. -/
def opPhp (bus : Bus) (s : State) : Result := .next (s.push bus (pushedStatus s.p))

/-- PLA (R178): `A <- Pop(); UpdateZN(A)`. -/
def opPla (bus : Bus) (s : State) : Result :=
  let (v, s) := s.pop bus
  .next (State.updateZN { s with a := v } v)

/-- `v <- Pop(); P <- (v & 0xCF) | 0x20`, shared by PLP and RTI (R179, R203). -/
def State.pullStatus (bus : Bus) (s : State) : State :=
  let (v, s) := s.pop bus
  { s with p := pulledStatus v }

/-- PLP (R179). -/
def opPlp (bus : Bus) (s : State) : Result := .next (s.pullStatus bus)

/-- 0x48, PHA (R176). -/
def execPha (s : State) : Result := opPha .plainRam s

/-- 0x08, PHP (R177). -/
def execPhp (s : State) : Result := opPhp .plainRam s

/-- 0x68, PLA (R178). -/
def execPla (s : State) : Result := opPla .plainRam s

/-- 0x28, PLP (R179). -/
def execPlp (s : State) : Result := opPlp .plainRam s

end Sys2Proof.Machine
end

