-- ==== Sys2Proof/Machine/Control.lean ====
section
/-! DEFINITION. Branches, jumps, calls, returns, halt and no-op (45_control.md). Each instruction's rule once over the bus (`op…`), and
for each row of the opcode table one meaning of its own (`exec…`), on plain RAM. -/

namespace Sys2Proof.Machine

/-- `Branch(cond)` (R190): the displacement is read, and PC written, only when the condition holds (D19). -/
def branch (bus : Bus) (cond : Bool) (s : State) : Result :=
  if cond then
    let (d, s) := s.memRead bus s.pc
    .next { s with pc := (s.pc + 1) + sext16 d }
  else .next s

/-- BCC (R191): taken when `P.C = 0`. -/
def opBcc (bus : Bus) (s : State) : Result := branch bus (!s.flag .c) s

/-- BCS (R192): taken when `P.C = 1`. -/
def opBcs (bus : Bus) (s : State) : Result := branch bus (s.flag .c) s

/-- BEQ (R193): taken when `P.Z = 1`. -/
def opBeq (bus : Bus) (s : State) : Result := branch bus (s.flag .z) s

/-- BNE (R194): taken when `P.Z = 0`. -/
def opBne (bus : Bus) (s : State) : Result := branch bus (!s.flag .z) s

/-- BMI (R195): taken when `P.N = 1`. -/
def opBmi (bus : Bus) (s : State) : Result := branch bus (s.flag .n) s

/-- BPL (R196): taken when `P.N = 0`. -/
def opBpl (bus : Bus) (s : State) : Result := branch bus (!s.flag .n) s

/-- BVC (R197): taken when `P.V = 0`. -/
def opBvc (bus : Bus) (s : State) : Result := branch bus (!s.flag .v) s

/-- BVS (R198): taken when `P.V = 1`. -/
def opBvs (bus : Bus) (s : State) : Result := branch bus (s.flag .v) s

/-- JMP absolute (R199): `PC <- MemRead(PC, 2)`. -/
def opJmpAbsolute (bus : Bus) (s : State) : Result :=
  let (w, s) := s.memRead16 bus s.pc
  .next { s with pc := w }

/-- The address of the high byte of JMP indirect: `(ptr & 0xFF00) | ((ptr +16 1) & 0x00FF)` (R200). -/
def indirectHighAddr (ptr : Addr) : Addr := (ptr &&& 0xFF00#16) ||| ((ptr + 1) &&& 0x00FF#16)

/-- JMP indirect, with the page-wrap quirk (R200). -/
def opJmpIndirect (bus : Bus) (s : State) : Result :=
  let (ptr, s) := s.memRead16 bus s.pc
  let (w, s) := s.memReadPair bus ptr (indirectHighAddr ptr)
  .next { s with pc := w }

/-- JSR (R201): push `PC +16 1`, then read the target, so that a push over the operand bytes is seen (D14). -/
def opJsr (bus : Bus) (s : State) : Result :=
  let s := s.push16 bus (s.pc + 1)
  let (w, s) := s.memRead16 bus s.pc
  .next { s with pc := w }

/-- RTS (R202): `PC <- Pop16() +16 1`. -/
def opRts (bus : Bus) (s : State) : Result :=
  let (w, s) := s.pop16 bus
  .next { s with pc := w + 1 }

/-- RTI (R203): P as PLP, then `PC <- Pop16()` with no +1 (D9, D11). -/
def opRti (bus : Bus) (s : State) : Result :=
  let s := s.pullStatus bus
  let (w, s) := s.pop16 bus
  .next { s with pc := w }

/-- BRK, the halt opcode (R204): nothing but Run changes. -/
def opBrk (s : State) : Result := .next s.halt

/-- NOP (R205). -/
def opNop (s : State) : Result := .next s

/-- 0x90, BCC $nnnn (relative) (R191). -/
def execBcc (s : State) : Result := opBcc .plainRam s

/-- 0xB0, BCS $nnnn (relative) (R192). -/
def execBcs (s : State) : Result := opBcs .plainRam s

/-- 0xF0, BEQ $nnnn (relative) (R193). -/
def execBeq (s : State) : Result := opBeq .plainRam s

/-- 0xD0, BNE $nnnn (relative) (R194). -/
def execBne (s : State) : Result := opBne .plainRam s

/-- 0x30, BMI $nnnn (relative) (R195). -/
def execBmi (s : State) : Result := opBmi .plainRam s

/-- 0x10, BPL $nnnn (relative) (R196). -/
def execBpl (s : State) : Result := opBpl .plainRam s

/-- 0x50, BVC $nnnn (relative) (R197). -/
def execBvc (s : State) : Result := opBvc .plainRam s

/-- 0x70, BVS $nnnn (relative) (R198). -/
def execBvs (s : State) : Result := opBvs .plainRam s

/-- 0x4C, JMP $nnnn (R199). -/
def execJmpAbs (s : State) : Result := opJmpAbsolute .plainRam s

/-- 0x6C, JMP ($nnnn) (R200). -/
def execJmpInd (s : State) : Result := opJmpIndirect .plainRam s

/-- 0x20, JSR $nnnn (R201). -/
def execJsr (s : State) : Result := opJsr .plainRam s

/-- 0x60, RTS (R202). -/
def execRts (s : State) : Result := opRts .plainRam s

/-- 0x40, RTI (R203). -/
def execRti (s : State) : Result := opRti .plainRam s

/-- 0x00, BRK (R204). -/
def execBrk (s : State) : Result := opBrk s

/-- 0xEA, NOP (R205). -/
def execNop (s : State) : Result := opNop s

end Sys2Proof.Machine
end

