-- ==== Sys2Proof/Machine/FlagInstr.lean ====
section
/-! DEFINITION. Flag set and clear instructions (46_flags.md). Each instruction's rule once, (`op…`), and for each row of the opcode table
one meaning of its own (`exec…`). -/

namespace Sys2Proof.Machine

/-- CLC (R220): `P.C <- 0`. -/
def opClc (s : State) : Result := .next (s.writeFlag .c false)

/-- CLD (R221): `P.D <- 0`. -/
def opCld (s : State) : Result := .next (s.writeFlag .d false)

/-- CLI (R222): `P.I <- 0`. -/
def opCli (s : State) : Result := .next (s.writeFlag .i false)

/-- CLV (R223): `P.V <- 0`. -/
def opClv (s : State) : Result := .next (s.writeFlag .v false)

/-- SEC (R224): `P.C <- 1`. -/
def opSec (s : State) : Result := .next (s.writeFlag .c true)

/-- SED (R225): `P.D <- 1`. -/
def opSed (s : State) : Result := .next (s.writeFlag .d true)

/-- SEI (R226): `P.I <- 1`. -/
def opSei (s : State) : Result := .next (s.writeFlag .i true)

/-- 0x18, CLC (R220). -/
def execClc (s : State) : Result := opClc s

/-- 0xD8, CLD (R221). -/
def execCld (s : State) : Result := opCld s

/-- 0x58, CLI (R222). -/
def execCli (s : State) : Result := opCli s

/-- 0xB8, CLV (R223). -/
def execClv (s : State) : Result := opClv s

/-- 0x38, SEC (R224). -/
def execSec (s : State) : Result := opSec s

/-- 0xF8, SED (R225). -/
def execSed (s : State) : Result := opSed s

/-- 0x78, SEI (R226). -/
def execSei (s : State) : Result := opSei s

end Sys2Proof.Machine
end

