-- ==== Sys2Proof/Machine/LoadStore.lean ====
section
/-! DEFINITION. Loads, stores and register transfers (41_load_store_transfer.md). Each instruction's rule once (`op…`), over the
bus, the fetched opcode byte, which the fatal condition of R98 records, and the mode; and for each row of the opcode
table one meaning of its own (`exec…`), on plain RAM. -/

namespace Sys2Proof.Machine

/-- LDA (R110): `v <- Operand(mode); A <- v; UpdateZN(A)`. -/
def opLda (bus : Bus) (op : Byte) (mode : AddressingMode) (s : State) : Result :=
  withOperand bus op mode s fun v s => .next (State.updateZN { s with a := v } v)

/-- LDX (R111): `v <- Operand(mode); X <- v; UpdateZN(X)`. -/
def opLdx (bus : Bus) (op : Byte) (mode : AddressingMode) (s : State) : Result :=
  withOperand bus op mode s fun v s => .next (State.updateZN { s with x := v } v)

/-- LDY (R112): `v <- Operand(mode); Y <- v; UpdateZN(Y)`. -/
def opLdy (bus : Bus) (op : Byte) (mode : AddressingMode) (s : State) : Result :=
  withOperand bus op mode s fun v s => .next (State.updateZN { s with y := v } v)

/-- STA (R113): `MemWrite(EA(mode), 1, A)`. -/
def opSta (bus : Bus) (op : Byte) (mode : AddressingMode) (s : State) : Result := store bus op mode State.a s

/-- STX (R114): `MemWrite(EA(mode), 1, X)`. -/
def opStx (bus : Bus) (op : Byte) (mode : AddressingMode) (s : State) : Result := store bus op mode State.x s

/-- STY (R115): `MemWrite(EA(mode), 1, Y)`. -/
def opSty (bus : Bus) (op : Byte) (mode : AddressingMode) (s : State) : Result := store bus op mode State.y s

/-- TAX (R116): `X <- A; UpdateZN(X)`. -/
def opTax (s : State) : Result := .next (State.updateZN { s with x := s.a } s.a)

/-- TAY (R117): `Y <- A; UpdateZN(Y)`. -/
def opTay (s : State) : Result := .next (State.updateZN { s with y := s.a } s.a)

/-- TXA (R118): `A <- X; UpdateZN(A)`. -/
def opTxa (s : State) : Result := .next (State.updateZN { s with a := s.x } s.x)

/-- TYA (R119): `A <- Y; UpdateZN(A)`. -/
def opTya (s : State) : Result := .next (State.updateZN { s with a := s.y } s.y)

/-- TSX (R120): `X <- SP; UpdateZN(X)`. -/
def opTsx (s : State) : Result := .next (State.updateZN { s with x := s.sp } s.sp)

/-- TXS (R121): `SP <- X`; no flag (D15). -/
def opTxs (s : State) : Result := .next { s with sp := s.x }

/-- 0xA1, LDA ($nn,X) (R110). -/
def execLdaIndX (s : State) : Result := opLda .plainRam 0xA1#8 .indirectX s

/-- 0xA5, LDA $nn (R110). -/
def execLdaZp (s : State) : Result := opLda .plainRam 0xA5#8 .zeroPage s

/-- 0xA9, LDA #$nn (R110). -/
def execLdaImm (s : State) : Result := opLda .plainRam 0xA9#8 .immediate s

/-- 0xAD, LDA $nnnn (R110). -/
def execLdaAbs (s : State) : Result := opLda .plainRam 0xAD#8 .absolute s

/-- 0xB1, LDA ($nn),Y (R110). -/
def execLdaIndY (s : State) : Result := opLda .plainRam 0xB1#8 .indirectY s

/-- 0xB5, LDA $nn,X (R110). -/
def execLdaZpX (s : State) : Result := opLda .plainRam 0xB5#8 .zeroPageX s

/-- 0xB9, LDA $nnnn,Y (R110). -/
def execLdaAbsY (s : State) : Result := opLda .plainRam 0xB9#8 .absoluteY s

/-- 0xBD, LDA $nnnn,X (R110). -/
def execLdaAbsX (s : State) : Result := opLda .plainRam 0xBD#8 .absoluteX s

/-- 0xA2, LDX #$nn (R111). -/
def execLdxImm (s : State) : Result := opLdx .plainRam 0xA2#8 .immediate s

/-- 0xA6, LDX $nn (R111). -/
def execLdxZp (s : State) : Result := opLdx .plainRam 0xA6#8 .zeroPage s

/-- 0xAE, LDX $nnnn (R111). -/
def execLdxAbs (s : State) : Result := opLdx .plainRam 0xAE#8 .absolute s

/-- 0xB6, LDX $nn,Y (R111). -/
def execLdxZpY (s : State) : Result := opLdx .plainRam 0xB6#8 .zeroPageY s

/-- 0xBE, LDX $nnnn,Y (R111). -/
def execLdxAbsY (s : State) : Result := opLdx .plainRam 0xBE#8 .absoluteY s

/-- 0xA0, LDY #$nn (R112). -/
def execLdyImm (s : State) : Result := opLdy .plainRam 0xA0#8 .immediate s

/-- 0xA4, LDY $nn (R112). -/
def execLdyZp (s : State) : Result := opLdy .plainRam 0xA4#8 .zeroPage s

/-- 0xAC, LDY $nnnn (R112). -/
def execLdyAbs (s : State) : Result := opLdy .plainRam 0xAC#8 .absolute s

/-- 0xB4, LDY $nn,X (R112). -/
def execLdyZpX (s : State) : Result := opLdy .plainRam 0xB4#8 .zeroPageX s

/-- 0xBC, LDY $nnnn,X (R112). -/
def execLdyAbsX (s : State) : Result := opLdy .plainRam 0xBC#8 .absoluteX s

/-- 0x81, STA ($nn,X) (R113). -/
def execStaIndX (s : State) : Result := opSta .plainRam 0x81#8 .indirectX s

/-- 0x85, STA $nn (R113). -/
def execStaZp (s : State) : Result := opSta .plainRam 0x85#8 .zeroPage s

/-- 0x8D, STA $nnnn (R113). -/
def execStaAbs (s : State) : Result := opSta .plainRam 0x8D#8 .absolute s

/-- 0x91, STA ($nn),Y (R113). -/
def execStaIndY (s : State) : Result := opSta .plainRam 0x91#8 .indirectY s

/-- 0x95, STA $nn,X (R113). -/
def execStaZpX (s : State) : Result := opSta .plainRam 0x95#8 .zeroPageX s

/-- 0x99, STA $nnnn,Y (R113). -/
def execStaAbsY (s : State) : Result := opSta .plainRam 0x99#8 .absoluteY s

/-- 0x9D, STA $nnnn,X (R113). -/
def execStaAbsX (s : State) : Result := opSta .plainRam 0x9D#8 .absoluteX s

/-- 0x86, STX $nn (R114). -/
def execStxZp (s : State) : Result := opStx .plainRam 0x86#8 .zeroPage s

/-- 0x8E, STX $nnnn (R114). -/
def execStxAbs (s : State) : Result := opStx .plainRam 0x8E#8 .absolute s

/-- 0x96, STX $nn,Y (R114). -/
def execStxZpY (s : State) : Result := opStx .plainRam 0x96#8 .zeroPageY s

/-- 0x84, STY $nn (R115). -/
def execStyZp (s : State) : Result := opSty .plainRam 0x84#8 .zeroPage s

/-- 0x8C, STY $nnnn (R115). -/
def execStyAbs (s : State) : Result := opSty .plainRam 0x8C#8 .absolute s

/-- 0x94, STY $nn,X (R115). -/
def execStyZpX (s : State) : Result := opSty .plainRam 0x94#8 .zeroPageX s

/-- 0xAA, TAX (R116). -/
def execTax (s : State) : Result := opTax s

/-- 0xA8, TAY (R117). -/
def execTay (s : State) : Result := opTay s

/-- 0x8A, TXA (R118). -/
def execTxa (s : State) : Result := opTxa s

/-- 0x98, TYA (R119). -/
def execTya (s : State) : Result := opTya s

/-- 0xBA, TSX (R120). -/
def execTsx (s : State) : Result := opTsx s

/-- 0x9A, TXS (R121). -/
def execTxs (s : State) : Result := opTxs s

end Sys2Proof.Machine
end

