-- ==== Sys2Proof/Machine/Shift.lean ====
section
/-! DEFINITION. Shifts, rotates, increments and decrements (43_shift_incdec.md). Each instruction's rule once (`op…`), over the
bus, the fetched opcode byte, which the fatal condition of R98 records, and the mode; and for each row of the opcode
table one meaning of its own (`exec…`), on plain RAM. -/

namespace Sys2Proof.Machine

/-- ASL of memory (R150, R160). -/
def opAsl (bus : Bus) (op : Byte) (mode : AddressingMode) (s : State) : Result := readModifyWrite bus op mode aslFn s

/-- ASL of the accumulator (R150, R101). -/
def opAslA (s : State) : Result := modifyA aslFn s

/-- LSR of memory (R151, R160). -/
def opLsr (bus : Bus) (op : Byte) (mode : AddressingMode) (s : State) : Result := readModifyWrite bus op mode lsrFn s

/-- LSR of the accumulator (R151, R101). -/
def opLsrA (s : State) : Result := modifyA lsrFn s

/-- ROL of memory (R152, R160). -/
def opRol (bus : Bus) (op : Byte) (mode : AddressingMode) (s : State) : Result := readModifyWrite bus op mode rolFn s

/-- ROL of the accumulator (R152, R101). -/
def opRolA (s : State) : Result := modifyA rolFn s

/-- ROR of memory (R153, R160). -/
def opRor (bus : Bus) (op : Byte) (mode : AddressingMode) (s : State) : Result := readModifyWrite bus op mode rorFn s

/-- ROR of the accumulator (R153, R101). -/
def opRorA (s : State) : Result := modifyA rorFn s

/-- INC (R154, R160). -/
def opInc (bus : Bus) (op : Byte) (mode : AddressingMode) (s : State) : Result := readModifyWrite bus op mode incFn s

/-- DEC (R155, R160). -/
def opDec (bus : Bus) (op : Byte) (mode : AddressingMode) (s : State) : Result := readModifyWrite bus op mode decFn s

/-- INX (R156): `X <- X +8 1; UpdateZN(X)`. -/
def opInx (s : State) : Result := .next (State.updateZN { s with x := s.x + 0x01#8 } (s.x + 0x01#8))

/-- INY (R157): `Y <- Y +8 1; UpdateZN(Y)`. -/
def opIny (s : State) : Result := .next (State.updateZN { s with y := s.y + 0x01#8 } (s.y + 0x01#8))

/-- DEX (R158): `X <- X -8 1; UpdateZN(X)`. -/
def opDex (s : State) : Result := .next (State.updateZN { s with x := s.x - 0x01#8 } (s.x - 0x01#8))

/-- DEY (R159): `Y <- Y -8 1; UpdateZN(Y)`. -/
def opDey (s : State) : Result := .next (State.updateZN { s with y := s.y - 0x01#8 } (s.y - 0x01#8))

/-- 0x06, ASL $nn (R150). -/
def execAslZp (s : State) : Result := opAsl .plainRam 0x06#8 .zeroPage s

/-- 0x0A, ASL A (R150). -/
def execAslAcc (s : State) : Result := opAslA s

/-- 0x0E, ASL $nnnn (R150). -/
def execAslAbs (s : State) : Result := opAsl .plainRam 0x0E#8 .absolute s

/-- 0x16, ASL $nn,X (R150). -/
def execAslZpX (s : State) : Result := opAsl .plainRam 0x16#8 .zeroPageX s

/-- 0x1E, ASL $nnnn,X (R150). -/
def execAslAbsX (s : State) : Result := opAsl .plainRam 0x1E#8 .absoluteX s

/-- 0x46, LSR $nn (R151). -/
def execLsrZp (s : State) : Result := opLsr .plainRam 0x46#8 .zeroPage s

/-- 0x4A, LSR A (R151). -/
def execLsrAcc (s : State) : Result := opLsrA s

/-- 0x4E, LSR $nnnn (R151). -/
def execLsrAbs (s : State) : Result := opLsr .plainRam 0x4E#8 .absolute s

/-- 0x56, LSR $nn,X (R151). -/
def execLsrZpX (s : State) : Result := opLsr .plainRam 0x56#8 .zeroPageX s

/-- 0x5E, LSR $nnnn,X (R151). -/
def execLsrAbsX (s : State) : Result := opLsr .plainRam 0x5E#8 .absoluteX s

/-- 0x26, ROL $nn (R152). -/
def execRolZp (s : State) : Result := opRol .plainRam 0x26#8 .zeroPage s

/-- 0x2A, ROL A (R152). -/
def execRolAcc (s : State) : Result := opRolA s

/-- 0x2E, ROL $nnnn (R152). -/
def execRolAbs (s : State) : Result := opRol .plainRam 0x2E#8 .absolute s

/-- 0x36, ROL $nn,X (R152). -/
def execRolZpX (s : State) : Result := opRol .plainRam 0x36#8 .zeroPageX s

/-- 0x3E, ROL $nnnn,X (R152). -/
def execRolAbsX (s : State) : Result := opRol .plainRam 0x3E#8 .absoluteX s

/-- 0x66, ROR $nn (R153). -/
def execRorZp (s : State) : Result := opRor .plainRam 0x66#8 .zeroPage s

/-- 0x6A, ROR A (R153). -/
def execRorAcc (s : State) : Result := opRorA s

/-- 0x6E, ROR $nnnn (R153). -/
def execRorAbs (s : State) : Result := opRor .plainRam 0x6E#8 .absolute s

/-- 0x76, ROR $nn,X (R153). -/
def execRorZpX (s : State) : Result := opRor .plainRam 0x76#8 .zeroPageX s

/-- 0x7E, ROR $nnnn,X (R153). -/
def execRorAbsX (s : State) : Result := opRor .plainRam 0x7E#8 .absoluteX s

/-- 0xE6, INC $nn (R154). -/
def execIncZp (s : State) : Result := opInc .plainRam 0xE6#8 .zeroPage s

/-- 0xEE, INC $nnnn (R154). -/
def execIncAbs (s : State) : Result := opInc .plainRam 0xEE#8 .absolute s

/-- 0xF6, INC $nn,X (R154). -/
def execIncZpX (s : State) : Result := opInc .plainRam 0xF6#8 .zeroPageX s

/-- 0xFE, INC $nnnn,X (R154). -/
def execIncAbsX (s : State) : Result := opInc .plainRam 0xFE#8 .absoluteX s

/-- 0xC6, DEC $nn (R155). -/
def execDecZp (s : State) : Result := opDec .plainRam 0xC6#8 .zeroPage s

/-- 0xCE, DEC $nnnn (R155). -/
def execDecAbs (s : State) : Result := opDec .plainRam 0xCE#8 .absolute s

/-- 0xD6, DEC $nn,X (R155). -/
def execDecZpX (s : State) : Result := opDec .plainRam 0xD6#8 .zeroPageX s

/-- 0xDE, DEC $nnnn,X (R155). -/
def execDecAbsX (s : State) : Result := opDec .plainRam 0xDE#8 .absoluteX s

/-- 0xE8, INX (R156). -/
def execInx (s : State) : Result := opInx s

/-- 0xC8, INY (R157). -/
def execIny (s : State) : Result := opIny s

/-- 0xCA, DEX (R158). -/
def execDex (s : State) : Result := opDex s

/-- 0x88, DEY (R159). -/
def execDey (s : State) : Result := opDey s

end Sys2Proof.Machine
end

