-- ==== Sys2Proof/Machine/Dispatch.lean ====
section
/-! DEFINITION. The dispatch by opcode (40_dispatch_and_addressing.md R83): one arm for each instruction. -/

namespace Sys2Proof.Machine

def exec (i : Instr) (s : State) : Host.Outcome State Fault Refusal :=
  match i with
  -- Loads, stores and transfers (41_load_store_transfer.md)
  | .ldaIndX => Sys2Proof.Machine.execLdaIndX s
  | .ldaZp => Sys2Proof.Machine.execLdaZp s
  | .ldaImm => Sys2Proof.Machine.execLdaImm s
  | .ldaAbs => Sys2Proof.Machine.execLdaAbs s
  | .ldaIndY => Sys2Proof.Machine.execLdaIndY s
  | .ldaZpX => Sys2Proof.Machine.execLdaZpX s
  | .ldaAbsY => Sys2Proof.Machine.execLdaAbsY s
  | .ldaAbsX => Sys2Proof.Machine.execLdaAbsX s
  | .ldxImm => Sys2Proof.Machine.execLdxImm s
  | .ldxZp => Sys2Proof.Machine.execLdxZp s
  | .ldxAbs => Sys2Proof.Machine.execLdxAbs s
  | .ldxZpY => Sys2Proof.Machine.execLdxZpY s
  | .ldxAbsY => Sys2Proof.Machine.execLdxAbsY s
  | .ldyImm => Sys2Proof.Machine.execLdyImm s
  | .ldyZp => Sys2Proof.Machine.execLdyZp s
  | .ldyAbs => Sys2Proof.Machine.execLdyAbs s
  | .ldyZpX => Sys2Proof.Machine.execLdyZpX s
  | .ldyAbsX => Sys2Proof.Machine.execLdyAbsX s
  | .staIndX => Sys2Proof.Machine.execStaIndX s
  | .staZp => Sys2Proof.Machine.execStaZp s
  | .staAbs => Sys2Proof.Machine.execStaAbs s
  | .staIndY => Sys2Proof.Machine.execStaIndY s
  | .staZpX => Sys2Proof.Machine.execStaZpX s
  | .staAbsY => Sys2Proof.Machine.execStaAbsY s
  | .staAbsX => Sys2Proof.Machine.execStaAbsX s
  | .stxZp => Sys2Proof.Machine.execStxZp s
  | .stxAbs => Sys2Proof.Machine.execStxAbs s
  | .stxZpY => Sys2Proof.Machine.execStxZpY s
  | .styZp => Sys2Proof.Machine.execStyZp s
  | .styAbs => Sys2Proof.Machine.execStyAbs s
  | .styZpX => Sys2Proof.Machine.execStyZpX s
  | .tax => Sys2Proof.Machine.execTax s
  | .tay => Sys2Proof.Machine.execTay s
  | .txa => Sys2Proof.Machine.execTxa s
  | .tya => Sys2Proof.Machine.execTya s
  | .tsx => Sys2Proof.Machine.execTsx s
  | .txs => Sys2Proof.Machine.execTxs s
  -- Arithmetic, logic, bit test and compare (42_arithmetic_logic.md)
  | .adcIndX => Sys2Proof.Machine.execAdcIndX s
  | .adcZp => Sys2Proof.Machine.execAdcZp s
  | .adcImm => Sys2Proof.Machine.execAdcImm s
  | .adcAbs => Sys2Proof.Machine.execAdcAbs s
  | .adcIndY => Sys2Proof.Machine.execAdcIndY s
  | .adcZpX => Sys2Proof.Machine.execAdcZpX s
  | .adcAbsY => Sys2Proof.Machine.execAdcAbsY s
  | .adcAbsX => Sys2Proof.Machine.execAdcAbsX s
  | .sbcIndX => Sys2Proof.Machine.execSbcIndX s
  | .sbcZp => Sys2Proof.Machine.execSbcZp s
  | .sbcImm => Sys2Proof.Machine.execSbcImm s
  | .sbcAbs => Sys2Proof.Machine.execSbcAbs s
  | .sbcIndY => Sys2Proof.Machine.execSbcIndY s
  | .sbcZpX => Sys2Proof.Machine.execSbcZpX s
  | .sbcAbsY => Sys2Proof.Machine.execSbcAbsY s
  | .sbcAbsX => Sys2Proof.Machine.execSbcAbsX s
  | .andIndX => Sys2Proof.Machine.execAndIndX s
  | .andZp => Sys2Proof.Machine.execAndZp s
  | .andImm => Sys2Proof.Machine.execAndImm s
  | .andAbs => Sys2Proof.Machine.execAndAbs s
  | .andIndY => Sys2Proof.Machine.execAndIndY s
  | .andZpX => Sys2Proof.Machine.execAndZpX s
  | .andAbsY => Sys2Proof.Machine.execAndAbsY s
  | .andAbsX => Sys2Proof.Machine.execAndAbsX s
  | .oraIndX => Sys2Proof.Machine.execOraIndX s
  | .oraZp => Sys2Proof.Machine.execOraZp s
  | .oraImm => Sys2Proof.Machine.execOraImm s
  | .oraAbs => Sys2Proof.Machine.execOraAbs s
  | .oraIndY => Sys2Proof.Machine.execOraIndY s
  | .oraZpX => Sys2Proof.Machine.execOraZpX s
  | .oraAbsY => Sys2Proof.Machine.execOraAbsY s
  | .oraAbsX => Sys2Proof.Machine.execOraAbsX s
  | .eorIndX => Sys2Proof.Machine.execEorIndX s
  | .eorZp => Sys2Proof.Machine.execEorZp s
  | .eorImm => Sys2Proof.Machine.execEorImm s
  | .eorAbs => Sys2Proof.Machine.execEorAbs s
  | .eorIndY => Sys2Proof.Machine.execEorIndY s
  | .eorZpX => Sys2Proof.Machine.execEorZpX s
  | .eorAbsY => Sys2Proof.Machine.execEorAbsY s
  | .eorAbsX => Sys2Proof.Machine.execEorAbsX s
  | .bitZp => Sys2Proof.Machine.execBitZp s
  | .bitAbs => Sys2Proof.Machine.execBitAbs s
  | .cmpIndX => Sys2Proof.Machine.execCmpIndX s
  | .cmpZp => Sys2Proof.Machine.execCmpZp s
  | .cmpImm => Sys2Proof.Machine.execCmpImm s
  | .cmpAbs => Sys2Proof.Machine.execCmpAbs s
  | .cmpIndY => Sys2Proof.Machine.execCmpIndY s
  | .cmpZpX => Sys2Proof.Machine.execCmpZpX s
  | .cmpAbsY => Sys2Proof.Machine.execCmpAbsY s
  | .cmpAbsX => Sys2Proof.Machine.execCmpAbsX s
  | .cpxImm => Sys2Proof.Machine.execCpxImm s
  | .cpxZp => Sys2Proof.Machine.execCpxZp s
  | .cpxAbs => Sys2Proof.Machine.execCpxAbs s
  | .cpyImm => Sys2Proof.Machine.execCpyImm s
  | .cpyZp => Sys2Proof.Machine.execCpyZp s
  | .cpyAbs => Sys2Proof.Machine.execCpyAbs s
  -- Shifts, rotates, increments and decrements (43_shift_incdec.md)
  | .aslZp => Sys2Proof.Machine.execAslZp s
  | .aslAcc => Sys2Proof.Machine.execAslAcc s
  | .aslAbs => Sys2Proof.Machine.execAslAbs s
  | .aslZpX => Sys2Proof.Machine.execAslZpX s
  | .aslAbsX => Sys2Proof.Machine.execAslAbsX s
  | .lsrZp => Sys2Proof.Machine.execLsrZp s
  | .lsrAcc => Sys2Proof.Machine.execLsrAcc s
  | .lsrAbs => Sys2Proof.Machine.execLsrAbs s
  | .lsrZpX => Sys2Proof.Machine.execLsrZpX s
  | .lsrAbsX => Sys2Proof.Machine.execLsrAbsX s
  | .rolZp => Sys2Proof.Machine.execRolZp s
  | .rolAcc => Sys2Proof.Machine.execRolAcc s
  | .rolAbs => Sys2Proof.Machine.execRolAbs s
  | .rolZpX => Sys2Proof.Machine.execRolZpX s
  | .rolAbsX => Sys2Proof.Machine.execRolAbsX s
  | .rorZp => Sys2Proof.Machine.execRorZp s
  | .rorAcc => Sys2Proof.Machine.execRorAcc s
  | .rorAbs => Sys2Proof.Machine.execRorAbs s
  | .rorZpX => Sys2Proof.Machine.execRorZpX s
  | .rorAbsX => Sys2Proof.Machine.execRorAbsX s
  | .incZp => Sys2Proof.Machine.execIncZp s
  | .incAbs => Sys2Proof.Machine.execIncAbs s
  | .incZpX => Sys2Proof.Machine.execIncZpX s
  | .incAbsX => Sys2Proof.Machine.execIncAbsX s
  | .decZp => Sys2Proof.Machine.execDecZp s
  | .decAbs => Sys2Proof.Machine.execDecAbs s
  | .decZpX => Sys2Proof.Machine.execDecZpX s
  | .decAbsX => Sys2Proof.Machine.execDecAbsX s
  | .inx => Sys2Proof.Machine.execInx s
  | .iny => Sys2Proof.Machine.execIny s
  | .dex => Sys2Proof.Machine.execDex s
  | .dey => Sys2Proof.Machine.execDey s
  -- Stack instructions (44_stack.md)
  | .pha => Sys2Proof.Machine.execPha s
  | .php => Sys2Proof.Machine.execPhp s
  | .pla => Sys2Proof.Machine.execPla s
  | .plp => Sys2Proof.Machine.execPlp s
  -- Branches, jumps, calls, returns, halt and no-op (45_control.md)
  | .bcc => Sys2Proof.Machine.execBcc s
  | .bcs => Sys2Proof.Machine.execBcs s
  | .beq => Sys2Proof.Machine.execBeq s
  | .bne => Sys2Proof.Machine.execBne s
  | .bmi => Sys2Proof.Machine.execBmi s
  | .bpl => Sys2Proof.Machine.execBpl s
  | .bvc => Sys2Proof.Machine.execBvc s
  | .bvs => Sys2Proof.Machine.execBvs s
  | .jmpAbs => Sys2Proof.Machine.execJmpAbs s
  | .jmpInd => Sys2Proof.Machine.execJmpInd s
  | .jsr => Sys2Proof.Machine.execJsr s
  | .rts => Sys2Proof.Machine.execRts s
  | .rti => Sys2Proof.Machine.execRti s
  | .brk => Sys2Proof.Machine.execBrk s
  | .nop => Sys2Proof.Machine.execNop s
  -- Flag set and clear (46_flags.md)
  | .clc => Sys2Proof.Machine.execClc s
  | .cld => Sys2Proof.Machine.execCld s
  | .cli => Sys2Proof.Machine.execCli s
  | .clv => Sys2Proof.Machine.execClv s
  | .sec => Sys2Proof.Machine.execSec s
  | .sed => Sys2Proof.Machine.execSed s
  | .sei => Sys2Proof.Machine.execSei s

end Sys2Proof.Machine
end

