-- ==== Sys2Proof/Machine/Execute.lean ====
section
/-! DEFINITION. `Execute(d.mnemonic, d.mode)` of the step (40_dispatch_and_addressing.md R80, R83) on any bus
(20_memory.md R42). On plain RAM it is `exec` (Machine/Dispatch.lean), arm by arm: Laws/Execute.lean proves it. -/

namespace Sys2Proof.Machine

/-- The handlers by mnemonic and operand form (R83): a form other than accumulator or JMP indirect is given to its
handler as the mode tag, beside the fetched byte `op` (R81) that R98 records. -/
def executeForm (bus : Bus) (op : Byte) (mnemonic : Mnemonic) (form : OperandForm) (s : State) : Result :=
  match mnemonic with
  | .lda => opLda bus op form.mode s
  | .ldx => opLdx bus op form.mode s
  | .ldy => opLdy bus op form.mode s
  | .sta => opSta bus op form.mode s
  | .stx => opStx bus op form.mode s
  | .sty => opSty bus op form.mode s
  | .tax => opTax s
  | .tay => opTay s
  | .txa => opTxa s
  | .tya => opTya s
  | .tsx => opTsx s
  | .txs => opTxs s
  | .adc => opAdc bus op form.mode s
  | .sbc => opSbc bus op form.mode s
  | .and => opAnd bus op form.mode s
  | .ora => opOra bus op form.mode s
  | .eor => opEor bus op form.mode s
  | .bit => opBit bus op form.mode s
  | .cmp => opCmp bus op form.mode s
  | .cpx => opCpx bus op form.mode s
  | .cpy => opCpy bus op form.mode s
  | .asl => if form = .accumulator then opAslA s else opAsl bus op form.mode s
  | .lsr => if form = .accumulator then opLsrA s else opLsr bus op form.mode s
  | .rol => if form = .accumulator then opRolA s else opRol bus op form.mode s
  | .ror => if form = .accumulator then opRorA s else opRor bus op form.mode s
  | .inc => opInc bus op form.mode s
  | .dec => opDec bus op form.mode s
  | .inx => opInx s
  | .iny => opIny s
  | .dex => opDex s
  | .dey => opDey s
  | .pha => opPha bus s
  | .php => opPhp bus s
  | .pla => opPla bus s
  | .plp => opPlp bus s
  | .bcc => opBcc bus s
  | .bcs => opBcs bus s
  | .beq => opBeq bus s
  | .bne => opBne bus s
  | .bmi => opBmi bus s
  | .bpl => opBpl bus s
  | .bvc => opBvc bus s
  | .bvs => opBvs bus s
  | .jmp => if form = .jumpIndirect then opJmpIndirect bus s else opJmpAbsolute bus s
  | .jsr => opJsr bus s
  | .rts => opRts bus s
  | .rti => opRti bus s
  | .brk => opBrk s
  | .nop => opNop s
  | .clc => opClc s
  | .cld => opCld s
  | .cli => opCli s
  | .clv => opClv s
  | .sec => opSec s
  | .sed => opSed s
  | .sei => opSei s

/-- One instruction's execute phase on a bus (R80, R83). The fetched byte that selects `i` is `i.opcode`
(Laws/Decode.lean). -/
def execute (bus : Bus) (i : Instr) (s : State) : Result := executeForm bus i.opcode i.mnemonic i.form s

end Sys2Proof.Machine
end

