-- ==== Sys2Proof/Machine/HostActions.lean ====
section
/-! DEFINITION. What the host does to the core (00_scope.md R16): power-up (70_reset_and_hazards.md R261), program loading
(R262), reset (R260), the boot order (R263), and the observer hook (40_dispatch_and_addressing.md R85). `INIT_MEM`,
`LOAD_BASE` and `OBSERVER`, the open parameters of R7, are arguments here. The host's own memory accesses are not on the
core's `port` record (log entry 16). -/

namespace Sys2Proof.Machine

/-- Power-up with memory `INIT_MEM` (R261, R35): fixed defaults, Run not Running. -/
def State.powerUp (initMem : Memory) : State where
  a := 0x00#8
  x := 0x00#8
  y := 0x00#8
  p := Config.pReset
  sp := Config.spReset
  pc := 0x0000#16
  run := .poweredUp
  mem := initMem
  port := []

/-- `MemWrite(base +16 i, 1, bytes[i])` for each i, in order (R262). -/
def loadBytes (bus : Bus) : Addr → List Byte → Memory → Memory
  | _, [], m => m
  | base, b :: bs, m => loadBytes bus (base + 1) bs (bus.write m base b)

/-- The external loader (R262): the program at `LOAD_BASE`, then `LOAD_BASE` into the reset vector, low byte first. -/
def State.loadProgram (bus : Bus) (loadBase : Addr) (prog : List Byte) (s : State) : State :=
  let m := loadBytes bus loadBase prog s.mem
  let m := bus.write m Config.resetVector (lowByte loadBase)
  let m := bus.write m (Config.resetVector + 1) (highByte loadBase)
  { s with mem := m }

/-- `Reset()` (R260) of a core whose loop is not running. -/
def State.afterReset (bus : Bus) (s : State) : State :=
  let s := { s with a := 0x00#8, x := 0x00#8, y := 0x00#8, p := Config.pReset, sp := Config.spReset, port := [] }
  let (w, s) := s.memRead16 bus Config.resetVector
  { s with pc := w, run := .running }

/-- The host's reset (R260): it may be invoked only while the loop is not running (ID6). -/
def hostReset (bus : Bus) (s : State) : Result :=
  if s.run = .running then .refused .resetWhileRunning else .next (s.afterReset bus)

/-- The boot order (R263): power-up, load, reset. -/
def boot (bus : Bus) (initMem : Memory) (loadBase : Addr) (prog : List Byte) : Result :=
  hostReset bus (State.loadProgram bus loadBase prog (State.powerUp initMem))

/-- One thing the observer hook may do to the CPU state or, through the port, to memory (R85, D21). A read through the
port shows only in what the bus does on it. -/
inductive HookAction where
  | setA (v : Byte)
  | setX (v : Byte)
  | setY (v : Byte)
  | setP (v : Byte)
  | setSp (v : Byte)
  | setPc (v : Addr)
  | readMem (address : Addr)
  | writeMem (address : Addr) (v : Byte)
  deriving DecidableEq, Repr

/-- The effect of one hook action. None of them reaches Run: R85 does not list it (log entry 3). -/
def State.hookAction (bus : Bus) (s : State) (w : HookAction) : State :=
  match w with
  | .setA v => { s with a := v }
  | .setX v => { s with x := v }
  | .setY v => { s with y := v }
  | .setP v => { s with p := v }
  | .setSp v => { s with sp := v }
  | .setPc v => { s with pc := v }
  | .readMem a => { s with mem := (bus.read s.mem a).2 }
  | .writeMem a v => { s with mem := bus.write s.mem a v }

/-- `OBSERVER`: what the hook does, as a function of all it can read (R85, D21). -/
abbrev Observer := State → List HookAction

/-- The default observer, the identity (R85, D21). -/
def identityObserver : Observer := fun _ => []

/-- One call of the hook (R85): its actions in order. -/
def State.observe (bus : Bus) (obs : Observer) (s : State) : State := (obs s).foldl (State.hookAction bus) s

end Sys2Proof.Machine
end

