-- ==== Sys2Proof/Machine/Cycle.lean ====
section
/-! DEFINITION. The loop's phases: fetch, decode, execute, advance, observe (40_dispatch_and_addressing.md R80 to R86).
Machine/Step.lean names the step of the default bus and observer. -/

namespace Sys2Proof.Machine

/-- Fetch (R81): read the opcode byte at PC, then increment PC. The record of the port starts anew with the step. -/
def State.fetch (bus : Bus) (s : State) : Byte × State :=
  let (op, s) := State.memRead bus s.pc { s with port := [] }
  (op, { s with pc := s.pc + 1 })

/-- Advance with the redirect test (R84): if PC still equals `pc_after_fetch`, skip the operand bytes. -/
def State.advance (length : Nat) (pcAfterFetch : Addr) (s : State) : State :=
  if s.pc = pcAfterFetch then { s with pc := s.pc + BitVec.ofNat 16 (length - 1) } else s

/-- The phases after execute (R80): a halted core neither advances nor observes (R204, R233); any other completed
instruction does both, once (R84, R85). -/
def State.complete (bus : Bus) (obs : Observer) (length : Nat) (pcAfterFetch : Addr) (s : State) : State :=
  if s.run = .halted then s else (s.advance length pcAfterFetch).observe bus obs

/-- One pass of the loop while Run = Running (R80), with `ex` for the execute phase. -/
def runInstruction (ex : Instr → State → Result) (bus : Bus) (obs : Observer) (s : State) : Result :=
  let (op, f) := s.fetch bus
  match decodeOpcode op with
  | none => raiseFatal (.unknownOpcode op s.pc) f
  | some i =>
    match ex i f with
    | .next t => .next (t.complete bus obs i.length f.pc)
    | .fault r => .fault r
    | .refused r => .refused r

/-- `Step()` (R80), only when Run = Running (R30, R86): a halted core is stuck (ID3), a fatal one faults (ID4), and a
step before the first reset has no meaning (ID5). -/
def stepWith (ex : Instr → State → Result) (bus : Bus) (obs : Observer) (s : State) : Result :=
  match s.run with
  | .poweredUp => .refused .stepBeforeReset
  | .running => runInstruction ex bus obs s
  | .halted => .fault .halted
  | .fatal info => .fault (.alreadyFatal info)

/-- The step for any `BUS` and any `OBSERVER` (R7, R42, R85). -/
def stepOn (bus : Bus) (obs : Observer) (s : State) : Result := stepWith (execute bus) bus obs s

/-- `s` with `bytes` in memory from `addr` on, wrapping at the top (R24). -/
def State.withBytes (addr : Addr) (bytes : List Byte) (s : State) : State :=
  { s with mem := loadBytes .plainRam addr bytes s.mem }

end Sys2Proof.Machine
end

