-- ==== Sys2Proof/Machine/Step.lean ====
section
/-! DEFINITION. The step of the machine on the default bus and observer (40_dispatch_and_addressing.md R80; D17, D21), and the
state in which the next fetch finds a given instruction. -/

namespace Sys2Proof.Machine

/-- One step (R80) on plain RAM (R42) with the identity observer (R85). -/
def step (s : State) : Host.Outcome State Fault Refusal := stepWith exec .plainRam identityObserver s

/-- `s` with the instruction whose first `nbits` bits are `w` at PC, where the next step fetches, and Run = Running, which
the fetch needs (R80); log entry 17. -/
def State.withFetchWord (s : State) (nbits w : Nat) : State :=
  { s.withBytes s.pc (tableBytes nbits w) with run := .running }

end Sys2Proof.Machine
end

