-- ==== Sys2Proof/Safety.lean ====
section
/-! DEFINITION. What counts as a good state and a safe run, and the words the statements use: rows of an encoding, flags
after an instruction, the effective address, the state right after a fetch, and the replay of a port record. -/

namespace Sys2Proof

/-- The mnemonics that write PC in some form or halt (45_control.md): every other one advances by its length. -/
def Mnemonic.isControl : Mnemonic → Bool
  | .bcc | .bcs | .beq | .bne | .bmi | .bpl | .bvc | .bvs | .jmp | .jsr | .rts | .rti | .brk => true
  | _ => false

/-- The instructions that read A (R22). -/
def Instr.readsA (i : Instr) : Bool :=
  i.form == .accumulator || [.sta, .tax, .tay, .pha, .adc, .sbc, .and, .ora, .eor, .bit, .cmp].contains i.mnemonic

/-- The instructions that read X: the listed ones and every X-indexed mode (R22). -/
def Instr.readsX (i : Instr) : Bool :=
  [.stx, .txa, .txs, .cpx, .inx, .dex].contains i.mnemonic || [.zeroPageX, .absoluteX, .indirectX].contains i.mode

/-- The instructions that read Y: the listed ones and every Y-indexed mode (R22). -/
def Instr.readsY (i : Instr) : Bool :=
  [.sty, .tya, .cpy, .iny, .dey].contains i.mnemonic || [.zeroPageY, .absoluteY, .indirectY].contains i.mode

/-- The instructions that write A (R22). -/
def Instr.writesA (i : Instr) : Bool :=
  i.form == .accumulator || [.lda, .txa, .tya, .pla, .adc, .sbc, .and, .ora, .eor].contains i.mnemonic

/-- The instructions that write X (R22). -/
def Instr.writesX (i : Instr) : Bool := [.ldx, .tax, .tsx, .inx, .dex].contains i.mnemonic

/-- The instructions that write Y (R22). -/
def Instr.writesY (i : Instr) : Bool := [.ldy, .tay, .iny, .dey].contains i.mnemonic

/-- The instructions that write SP: TXS, and those built on push and pop (R29). -/
def Instr.writesSp (i : Instr) : Bool := [.txs, .pha, .php, .pla, .plp, .jsr, .rts, .rti].contains i.mnemonic

/-- The instructions that store to the effective address (20_memory.md R46). -/
def Instr.storesToEA (i : Instr) : Bool :=
  [.sta, .stx, .sty, .inc, .dec].contains i.mnemonic
    || ([.asl, .lsr, .rol, .ror].contains i.mnemonic && i.form != .accumulator)

/-- The instructions that push (44_stack.md, R201). -/
def Instr.pushes (i : Instr) : Bool := [.pha, .php, .jsr].contains i.mnemonic

end Sys2Proof

namespace Sys2Proof.Machine

/-- The invariant of a run: memory canonical, U = 1 and B = 0 in P (10_state.md R27, R28). -/
def State.Inv (s : State) : Prop := s.mem.wf = true ∧ s.flag .u = true ∧ s.flag .b = false

/-- `t` is reached from `s` by `n` steps (40_dispatch_and_addressing.md R86). -/
inductive Steps : Nat → State → State → Prop where
  | refl (s : State) : Steps 0 s s
  | tail {n : Nat} {s t u : State} (h : Steps n s t) (hs : step t = .next u) : Steps (n + 1) s u

/-- The run from `s` halts in `t` after `n` steps: the normal end of a run (60_exceptions.md R233), no Fatal reached. -/
def HaltsIn (n : Nat) (s t : State) : Prop := Steps n s t ∧ t.run = .halted

/-- The outcome is one of the two fatal conditions (R230, R232). -/
def IsFatal : Result → Prop
  | .next _ => False
  | .refused _ => False
  | .fault (.unknownOpcode _ _ _) => True
  | .fault (.noAddressing _ _ _ _) => True
  | .fault .halted => False
  | .fault (.alreadyFatal _) => False

/-- The Encodings line of an instruction rule: exactly these opcode bytes, each with its form and length. -/
def Encodes (m : Mnemonic) (rows : List (Byte × OperandForm × Nat)) : Prop :=
  (∀ r ∈ rows, (decodeOpcode r.1).map (fun i => (i.mnemonic, i.form, i.length)) = some (m, r.2.1, r.2.2)) ∧
    ∀ i : Instr, i.mnemonic = m → i.opcode ∈ rows.map (·.1)

/-- The value of flag `f` after the writes of `l` to a status byte `p`. -/
def flagAfter (p : Byte) : List (Flag × Bool) → Flag → Bool
  | [], f => getFlag p f
  | (g, b) :: l, f => if f = g then b else flagAfter p l f

/-- From P = `p` to P = `q`: the listed flags hold the listed values, every other bit of P is unchanged. -/
def FlagsWritten (p q : Byte) (l : List (Flag × Bool)) : Prop := ∀ f, getFlag q f = flagAfter p l f

/-- Z and N of a result byte, as R100 gives them. -/
def znOf (r : Byte) : List (Flag × Bool) := [(.z, decide (r.toNat = 0)), (.n, r.getLsbD 7)]

/-- `EA(mode)` of a state on plain RAM (R88). -/
def effectiveAddress (mode : AddressingMode) (s : State) : Option Addr :=
  (resolve .plainRam mode s).map Prod.fst

/-- The 16-bit word whose low byte is at `lo` and high byte at `hi` (20_memory.md R43). -/
def wordAt (m : Memory) (lo hi : Addr) : Addr :=
  BitVec.ofNat 16 ((m.read lo).toNat + 256 * (m.read hi).toNat)

/-- The stack byte an SP value points to: 0x0100 to 0x01FF (44_stack.md R170). -/
def stackByte (sp : Byte) : Addr := BitVec.ofNat 16 (0x0100 + sp.toNat)

/-- The state execute starts from: the opcode byte read, PC just past it (R81). -/
def State.fetched (s : State) : State :=
  { s with pc := s.pc + 1, port := [.read s.pc (s.mem.read s.pc)] }

/-- The three bytes at PC, the longest instruction. -/
def State.bytesAtPc (s : State) : List Byte := [s.mem.read s.pc, s.mem.read (s.pc + 1), s.mem.read (s.pc + 2)]

/-- Replay a port record against a memory: each read must return what memory then holds, each write is made (R53). -/
def replay : Memory → List Access → Option Memory
  | m, [] => some m
  | m, .read a v :: l => if m.read a = v then replay m l else none
  | m, .write a v :: l => replay (m.write a v) l

/-- The access is a read. -/
def Access.isRead : Access → Bool
  | .read _ _ => true
  | .write _ _ => false

/-- The result byte, as a number, and the bit shifted out, of a shift or rotate of `v` with carry in `c` (43_shift_incdec.md
R150 to R153); `none` for any other mnemonic. -/
def shiftResult (m : Mnemonic) (v : Byte) (c : Bool) : Option (Nat × Bool) :=
  match m with
  | .asl => some (2 * v.toNat % 256, v.getLsbD 7)
  | .lsr => some (v.toNat / 2, v.getLsbD 0)
  | .rol => some (2 * v.toNat % 256 + c.toNat, v.getLsbD 7)
  | .ror => some (v.toNat / 2 + 128 * c.toNat, v.getLsbD 0)
  | _ => none

/-- The byte a read-modify-write of `v` writes and the flags it sets, with carry in `c` (43_shift_incdec.md R150 to R155,
R160); `none` for any other mnemonic. -/
def modifyResult (m : Mnemonic) (v : Byte) (c : Bool) : Option (Byte × List (Flag × Bool)) :=
  match m with
  | .inc => let r := BitVec.ofNat 8 ((v.toNat + 1) % 256); some (r, znOf r)
  | .dec => let r := BitVec.ofNat 8 ((v.toNat + 255) % 256); some (r, znOf r)
  | _ => (shiftResult m v c).map fun e => (BitVec.ofNat 8 e.1, (.c, e.2) :: znOf (BitVec.ofNat 8 e.1))

/-- The condition of a branch on P (45_control.md R191 to R198); `none` for any other mnemonic. -/
def branchCondition (m : Mnemonic) (p : Byte) : Option Bool :=
  match m with
  | .bcc => some (!p.getLsbD 0)
  | .bcs => some (p.getLsbD 0)
  | .beq => some (p.getLsbD 1)
  | .bne => some (!p.getLsbD 1)
  | .bmi => some (p.getLsbD 7)
  | .bpl => some (!p.getLsbD 7)
  | .bvc => some (!p.getLsbD 6)
  | .bvs => some (p.getLsbD 6)
  | _ => none

/-- The mnemonics that write a flag (10_state.md R26). -/
def flagWriters : Flag → List Mnemonic
  | .c => [.adc, .sbc, .cmp, .cpx, .cpy, .asl, .lsr, .rol, .ror, .clc, .sec, .plp, .rti]
  | .z => [.lda, .ldx, .ldy, .tax, .tay, .txa, .tya, .tsx, .pla, .adc, .sbc, .and, .ora, .eor, .cmp, .cpx, .cpy, .asl,
      .lsr, .rol, .ror, .inc, .dec, .inx, .iny, .dex, .dey] ++ [.bit, .plp, .rti]
  | .i => [.cli, .sei, .plp, .rti]
  | .d => [.cld, .sed, .plp, .rti]
  | .b => [.plp, .rti]
  | .u => [.plp, .rti]
  | .v => [.adc, .sbc, .bit, .clv, .plp, .rti]
  | .n => [.lda, .ldx, .ldy, .tax, .tay, .txa, .tya, .tsx, .pla, .adc, .sbc, .and, .ora, .eor, .cmp, .cpx, .cpy, .asl,
      .lsr, .rol, .ror, .inc, .dec, .inx, .iny, .dex, .dey] ++ [.bit, .plp, .rti]

/-- The mnemonics that read a flag (10_state.md R26). PHP pushes B and U as 1 whatever they hold, so it reads neither. -/
def flagReaders : Flag → List Mnemonic
  | .c => [.adc, .sbc, .rol, .ror, .bcc, .bcs, .php]
  | .z => [.beq, .bne, .php]
  | .i => [.php]
  | .d => [.php]
  | .b => []
  | .u => []
  | .v => [.bvc, .bvs, .php]
  | .n => [.bmi, .bpl, .php]

end Sys2Proof.Machine
end

