-- ==== Sys2Proof/Certificates/Slice0/Obligations.lean ====
section
/-! DEFINITION. The statements for the provers, each from the numbered rules its docstring names. -/

open Sys2Proof Sys2Proof.Machine

/-- Decoding the bytes of a well-formed instruction, with any operand bytes and any bytes after it, gives the instruction, its operand
and the rest (30_encoding.md R60, R61, R63). -/
def Obligations.DecodeInvertsEncode : Prop :=
  ∀ (c : MachineCode) (rest : List Byte), c.wellFormed = true → decode (encode c ++ rest) = .ok (c, rest)

/-- Bytes that decode are the encoding of what they decode to, followed by the rest: a byte string has one meaning (30_encoding.md R60, R61). -/
def Obligations.DecodedBytesAreTheEncoding : Prop :=
  ∀ (bytes rest : List Byte) (c : MachineCode), decode bytes = .ok (c, rest) →
    c.wellFormed = true ∧ encode c ++ rest = bytes

/-- The decoder rejects by name: no byte, an undefined opcode byte, an operand cut short (30_encoding.md R61, R65). The names are the model's. -/
def Obligations.BytesThatDoNotDecodeAreRejectedByName : Prop :=
  decode [] = .error .noBytes ∧
  (∀ (b : Byte) (rest : List Byte), decodeOpcode b = none → decode (b :: rest) = .error (.unknownOpcode b)) ∧
  ∀ (i : Instr) (operand : List Byte), operand.length < i.length - 1 →
    decode (i.opcode :: operand) = .error (.missingOperand i)

/-- The 105 bytes of 30_encoding.md R65 are exactly those without a descriptor, and fetching one raises UnknownOpcode with the byte and its address.
Which bytes are undefined is the spec's choice D1, the recorded address D22, the fault's shape log entry 6. -/
def Obligations.TheUndefinedBytesAreFatal : Prop :=
  let undefinedBytes : List Byte :=
    [0x02#8, 0x03#8, 0x04#8, 0x07#8, 0x0B#8, 0x0C#8, 0x0F#8, 0x12#8, 0x13#8, 0x14#8, 0x17#8, 0x1A#8, 0x1B#8, 0x1C#8, 0x1F#8] ++
    [0x22#8, 0x23#8, 0x27#8, 0x2B#8, 0x2F#8, 0x32#8, 0x33#8, 0x34#8, 0x37#8, 0x3A#8, 0x3B#8, 0x3C#8, 0x3F#8, 0x42#8, 0x43#8] ++
    [0x44#8, 0x47#8, 0x4B#8, 0x4F#8, 0x52#8, 0x53#8, 0x54#8, 0x57#8, 0x5A#8, 0x5B#8, 0x5C#8, 0x5F#8, 0x62#8, 0x63#8, 0x64#8] ++
    [0x67#8, 0x6B#8, 0x6F#8, 0x72#8, 0x73#8, 0x74#8, 0x77#8, 0x7A#8, 0x7B#8, 0x7C#8, 0x7F#8, 0x80#8, 0x82#8, 0x83#8, 0x87#8] ++
    [0x89#8, 0x8B#8, 0x8F#8, 0x92#8, 0x93#8, 0x97#8, 0x9B#8, 0x9C#8, 0x9E#8, 0x9F#8, 0xA3#8, 0xA7#8, 0xAB#8, 0xAF#8, 0xB2#8] ++
    [0xB3#8, 0xB7#8, 0xBB#8, 0xBF#8, 0xC2#8, 0xC3#8, 0xC7#8, 0xCB#8, 0xCF#8, 0xD2#8, 0xD3#8, 0xD4#8, 0xD7#8, 0xDA#8, 0xDB#8] ++
    [0xDC#8, 0xDF#8, 0xE2#8, 0xE3#8, 0xE7#8, 0xEB#8, 0xEF#8, 0xF2#8, 0xF3#8, 0xF4#8, 0xF7#8, 0xFA#8, 0xFB#8, 0xFC#8, 0xFF#8]
  undefinedBytes.length = 105 ∧ (∀ b : Byte, decodeOpcode b = none ↔ b ∈ undefinedBytes) ∧
  ∀ s : State, s.run = .running → s.mem.read s.pc ∈ undefinedBytes →
    ∃ left, step s = .fault (.unknownOpcode (s.mem.read s.pc) s.pc left)

/-- 30_encoding.md R62: the mode tag determines the length, and the table holds 29, 74 and 48 opcodes of length 1, 2 and 3.
Lengths and counts follow the spec's opcode table (D1). -/
def Obligations.FormatLengthsAndCounts : Prop :=
  let count := fun n : Nat =>
    ((List.range 256).filter fun b => (decodeOpcode (BitVec.ofNat 8 b)).map Instr.length == some n).length
  count 1 = 29 ∧ count 2 = 74 ∧ count 3 = 48 ∧
  ∀ i : Instr, i.length =
    match i.mode with
    | .noneAddressing =>
      if (branchCondition i.mnemonic 0).isSome then 2 else if i.mnemonic = .jmp ∨ i.mnemonic = .jsr then 3 else 1
    | .immediate | .zeroPage | .zeroPageX | .zeroPageY | .indirectX | .indirectY => 2
    | .absolute | .absoluteX | .absoluteY => 3

/-- The byte column of the syntax table of 30_encoding.md R66, and the two words of the opcode map R64 for JSR and BRK.
R66's spellings and all opcode bytes are the spec's choice (D1). -/
def Obligations.ExampleWordsDecode : Prop :=
  decode [0xE8#8] = .ok (⟨.inx, []⟩, []) ∧
  decode [0x0A#8] = .ok (⟨.aslAcc, []⟩, []) ∧
  decode [0xA9#8, 0x05#8] = .ok (⟨.ldaImm, [0x05#8]⟩, []) ∧
  decode [0xA5#8, 0x10#8] = .ok (⟨.ldaZp, [0x10#8]⟩, []) ∧
  decode [0xB5#8, 0x10#8] = .ok (⟨.ldaZpX, [0x10#8]⟩, []) ∧
  decode [0xB6#8, 0x10#8] = .ok (⟨.ldxZpY, [0x10#8]⟩, []) ∧
  decode [0xAD#8, 0x34#8, 0x12#8] = .ok (⟨.ldaAbs, [0x34#8, 0x12#8]⟩, []) ∧
  decode [0xBD#8, 0x34#8, 0x12#8] = .ok (⟨.ldaAbsX, [0x34#8, 0x12#8]⟩, []) ∧
  decode [0xB9#8, 0x34#8, 0x12#8] = .ok (⟨.ldaAbsY, [0x34#8, 0x12#8]⟩, []) ∧
  decode [0xA1#8, 0x20#8] = .ok (⟨.ldaIndX, [0x20#8]⟩, []) ∧
  decode [0xB1#8, 0x20#8] = .ok (⟨.ldaIndY, [0x20#8]⟩, []) ∧
  decode [0xD0#8, 0xFC#8] = .ok (⟨.bne, [0xFC#8]⟩, []) ∧
  decode [0x6C#8, 0xFF#8, 0x30#8] = .ok (⟨.jmpInd, [0xFF#8, 0x30#8]⟩, []) ∧
  decode [0x20#8, 0x00#8, 0x07#8] = .ok (⟨.jsr, [0x00#8, 0x07#8]⟩, []) ∧
  decode [0x00#8] = .ok (⟨.brk, []⟩, [])

/-- 40_dispatch_and_addressing.md R80, R81, R83, R84 on the default bus and observer: when the bytes at PC decode, the step is the execute phase
from the state after the fetch; then, unless the core halted, the operand bytes are skipped if PC still equals its value right after the fetch. -/
def Obligations.StepRunsDecodedInstruction : Prop :=
  ∀ (s : State) (c : MachineCode) (rest : List Byte), s.run = .running → decode s.bytesAtPc = .ok (c, rest) →
    step s =
      match exec c.instr s.fetched with
      | .next t =>
        .next (if t.run = .halted then t
          else if t.pc = s.pc + 1 then { t with pc := t.pc + BitVec.ofNat 16 (c.instr.length - 1) } else t)
      | .fault r => .fault r
      | .refused r => .refused r

/-- 60_exceptions.md R230, R231: the fault of an undefined byte, the state it leaves behind, and that this state takes no further step.
The recorded address is the spec's D22; the fault that carries the state left behind is log entry 6, the stop after it log entry 8, the port
record log entry 4. -/
def Obligations.UnknownOpcodeLeavesTheStateOfR230 : Prop :=
  ∀ s : State, s.run = .running → decodeOpcode (s.mem.read s.pc) = none →
    let info := FatalInfo.unknownOpcode (s.mem.read s.pc) s.pc
    let left : State :=
      { s with pc := s.pc + 1, run := .fatal info, port := [.read s.pc (s.mem.read s.pc)] }
    step s = .fault (.unknownOpcode (s.mem.read s.pc) s.pc left) ∧ step left = .fault (.alreadyFatal info)

/-- 10_state.md R30 with ID3, ID4 and ID5: a core that is not Running takes no step, on any bus and with any observer. The names of the stops are the
model's (log entries 5, 8, 9). -/
def Obligations.StoppedCoreTakesNoStep : Prop :=
  ∀ (bus : Bus) (obs : Observer) (s : State),
    (s.run = .halted → stepOn bus obs s = .fault .halted ∧ step s = .fault .halted) ∧
    (∀ info, s.run = .fatal info →
      stepOn bus obs s = .fault (.alreadyFatal info) ∧ step s = .fault (.alreadyFatal info)) ∧
    (s.run = .poweredUp → stepOn bus obs s = .refused .stepBeforeReset ∧ step s = .refused .stepBeforeReset)

/-- 45_control.md R204 and 60_exceptions.md R233: BRK, opcode 0x00, halts the loop at once; only Run and the fetch's PC increment change, the
observer does not run, nothing is pushed and no vector is read. On any bus and with any observer.
That 0x00 halts is the spec's decision D8. -/
def Obligations.BrkHaltsAndChangesNothingElse : Prop :=
  Encodes .brk [(0x00#8, .implied, 1)] ∧
  (∀ s : State, exec .brk s = .next { s with run := .halted }) ∧
  (∀ (bus : Bus) (obs : Observer) (s : State), s.run = .running → (bus.read s.mem s.pc).1 = 0x00#8 →
    stepOn bus obs s = .next
      { s with pc := s.pc + 1, run := .halted, mem := (bus.read s.mem s.pc).2, port := [.read s.pc 0x00#8] }) ∧
  ∀ s : State, s.run = .running → s.mem.read s.pc = 0x00#8 →
    step s = .next { s with pc := s.pc + 1, run := .halted, port := [.read s.pc 0x00#8] }

/-- 40_dispatch_and_addressing.md R85: after the advance the hook runs once; it does not run after a halt or a fatal condition; it can write every
register and memory; the default is the identity. On any bus.
What the hook can do is the spec's decision D21; that it is a list of actions is log entry 3. -/
def Obligations.ObserverRunsOncePerCompletedInstruction : Prop :=
  (∀ (bus : Bus) (obs : Observer) (s t : State) (i : Instr), s.run = .running →
    decodeOpcode (s.fetch bus).1 = some i → execute bus i (s.fetch bus).2 = .next t →
    stepOn bus obs s = .next (if t.run = .halted then t
      else State.observe bus obs
        (if t.pc = s.pc + 1 then { t with pc := t.pc + BitVec.ofNat 16 (i.length - 1) } else t))) ∧
  (∀ (bus : Bus) (obs : Observer) (s : State), s.run = .running → decodeOpcode (s.fetch bus).1 = none →
    stepOn bus obs s = .fault (.unknownOpcode (s.fetch bus).1 s.pc
      { (s.fetch bus).2 with run := .fatal (.unknownOpcode (s.fetch bus).1 s.pc) })) ∧
  (∀ (bus : Bus) (s : State), s.observe bus identityObserver = s) ∧
  ∀ (bus : Bus) (s : State) (a x y p sp : Byte) (pc addr : Addr) (v : Byte),
    s.observe bus (fun _ => [.setA a, .setX x, .setY y, .setP p, .setSp sp, .setPc pc, .writeMem addr v]) =
      { s with a := a, x := x, y := y, p := p, sp := sp, pc := pc, mem := bus.write s.mem addr v }

/-- 60_exceptions.md R234, R239 and 40_dispatch_and_addressing.md R98: for every one of the 151 instructions and every state the execute phase answers a next
state, so no address of NoneAddressing is ever asked; only BRK changes Run. On plain RAM and on any bus. -/
def Obligations.EveryInstructionCompletes : Prop :=
  (∀ (i : Instr) (s : State), ∃ t, exec i s = .next t ∧ t.run = if i = .brk then .halted else s.run) ∧
  ∀ (bus : Bus) (i : Instr) (s : State), ∃ t, execute bus i s = .next t ∧ t.run = if i = .brk then .halted else s.run

/-- Which mnemonic and form an instruction has decides its execute phase on plain RAM (40_dispatch_and_addressing.md R80, R83), and a running step stops
only on an undefined byte (60_exceptions.md R234, R238). -/
def Obligations.ExecuteOnPlainRamIsExec : Prop :=
  (∀ (i : Instr) (s : State), exec i s = executeForm .plainRam i.opcode i.mnemonic i.form s) ∧
  ∀ s : State, s.run = .running →
    ((∃ t, step s = .next t) ↔ decodeOpcode (s.mem.read s.pc) ≠ none) ∧
    (IsFatal (step s) ↔ decodeOpcode (s.mem.read s.pc) = none)

/-- 40_dispatch_and_addressing.md R84, R87: an instruction that is no branch, jump, call, return or halt moves PC by its length, modulo 65,536, and the
core stays Running. -/
def Obligations.OtherInstructionsAdvanceByTheirLength : Prop :=
  ∀ (s : State) (i : Instr), s.run = .running → decodeOpcode (s.mem.read s.pc) = some i →
    i.mnemonic.isControl = false →
    ∃ t, step s = .next t ∧ t.pc = s.pc + BitVec.ofNat 16 i.length ∧ t.run = .running

/-- 40_dispatch_and_addressing.md R89 to R97: the effective address of each mode, with its wraps, and exactly the reads of its rule, in order. p is PC
during execute.
The zero-page wrap of the pointer's high byte is the spec's D12, the wrap of p + 1 its D13. -/
def Obligations.ResolverAddressesAndReads : Prop :=
  ∀ s : State,
    let p := s.pc
    let b := s.mem.read p
    let saw := fun l : List Addr => ({ s with port := s.port ++ l.map fun a => .read a (s.mem.read a) } : State)
    let zp := fun n : Nat => BitVec.ofNat 16 (n % 256)
    let z := b.toNat + s.x.toNat
    resolve .plainRam .immediate s = some (p, s) ∧
    resolve .plainRam .zeroPage s = some (zp b.toNat, saw [p]) ∧
    resolve .plainRam .zeroPageX s = some (zp (b.toNat + s.x.toNat), saw [p]) ∧
    resolve .plainRam .zeroPageY s = some (zp (b.toNat + s.y.toNat), saw [p]) ∧
    resolve .plainRam .absolute s = some (wordAt s.mem p (p + 1), saw [p, p + 1]) ∧
    resolve .plainRam .absoluteX s =
      some (BitVec.ofNat 16 ((wordAt s.mem p (p + 1)).toNat + s.x.toNat), saw [p, p + 1]) ∧
    resolve .plainRam .absoluteY s =
      some (BitVec.ofNat 16 ((wordAt s.mem p (p + 1)).toNat + s.y.toNat), saw [p, p + 1]) ∧
    resolve .plainRam .indirectX s = some (wordAt s.mem (zp z) (zp (z + 1)), saw [p, zp z, zp (z + 1)]) ∧
    resolve .plainRam .indirectY s =
      some (BitVec.ofNat 16 ((wordAt s.mem (zp b.toNat) (zp (b.toNat + 1))).toNat + s.y.toNat),
        saw [p, zp b.toNat, zp (b.toNat + 1)])

/-- 40_dispatch_and_addressing.md R88, R98: on any bus the resolver changes no register and makes only reads; only NoneAddressing does not resolve, and
asking for it is the fatal condition of 60_exceptions.md R232 with the mode, the fetched opcode byte and its address.
That PC - 1 is the opcode's address during execute is log entry 7's. -/
def Obligations.ResolverNeverWrites : Prop :=
  (∀ (bus : Bus) (mode : AddressingMode) (s t : State) (ea : Addr), resolve bus mode s = some (ea, t) →
    t = { s with mem := t.mem, port := t.port } ∧
      ∃ l : List Access, t.port = s.port ++ l ∧ l.all Access.isRead = true ∧ l.length ≤ 3) ∧
  (∀ (bus : Bus) (mode : AddressingMode) (s : State), resolve bus mode s = none ↔ mode = .noneAddressing) ∧
  ∀ (bus : Bus) (op : Byte) (s : State) (k : Addr → State → Result),
    withEA bus op .noneAddressing s k =
      .fault (.noAddressing .noneAddressing op (s.pc - 1)
        { s with run := .fatal (.noAddressing .noneAddressing op (s.pc - 1)) })

/-- 40_dispatch_and_addressing.md R100: UpdateZN writes Z and N of the result byte and nothing else; after every instruction that produces a byte result
in A, X, Y or memory, Z and N are those of that byte, and after a compare those of the difference; the others in R100's list of non-callers but BIT, PLP
and RTI leave both alone.
That TXS is no caller is the spec's decision D15. -/
def Obligations.ZAndNFollowTheResultByte : Prop :=
  (∀ (s : State) (r : Byte), FlagsWritten s.p (s.updateZN r).p (znOf r) ∧
    s.updateZN r = { s with p := (s.updateZN r).p }) ∧
  ∀ (i : Instr) (s : State), ∃ t, exec i s = .next t ∧
    let zn := fun r : Byte => getFlag t.p .z = decide (r.toNat = 0) ∧ getFlag t.p .n = r.getLsbD 7
    (i.writesA = true → zn t.a) ∧ (i.writesX = true → zn t.x) ∧ (i.writesY = true → zn t.y) ∧
    (∀ ea, i.storesToEA = true → [Mnemonic.sta, .stx, .sty].contains i.mnemonic = false →
      effectiveAddress i.mode s = some ea → zn (t.mem.read ea)) ∧
    (∀ ea, effectiveAddress i.mode s = some ea → (i.mnemonic = .cmp → zn (s.a - s.mem.read ea)) ∧
      (i.mnemonic = .cpx → zn (s.x - s.mem.read ea)) ∧ (i.mnemonic = .cpy → zn (s.y - s.mem.read ea))) ∧
    (i.mnemonic ∉ flagWriters .z → getFlag t.p .z = getFlag s.p .z ∧ getFlag t.p .n = getFlag s.p .n)

/-- 41_load_store_transfer.md R110 to R112: LDA, LDX and LDY in every form copy the operand into their register and set Z and N from it; nothing else
changes.
The opcode bytes are the spec's choice D1, the exact port record its D17 and D27. -/
def Obligations.LoadsCopyTheOperand : Prop :=
  Encodes .lda [(0xA1#8, .indirectX, 2), (0xA5#8, .zeroPage, 2), (0xA9#8, .immediate, 2), (0xAD#8, .absolute, 3),
    (0xB1#8, .indirectY, 2), (0xB5#8, .zeroPageX, 2), (0xB9#8, .absoluteY, 3), (0xBD#8, .absoluteX, 3)] ∧
  Encodes .ldx [(0xA2#8, .immediate, 2), (0xA6#8, .zeroPage, 2), (0xAE#8, .absolute, 3), (0xB6#8, .zeroPageY, 2),
    (0xBE#8, .absoluteY, 3)] ∧
  Encodes .ldy [(0xA0#8, .immediate, 2), (0xA4#8, .zeroPage, 2), (0xAC#8, .absolute, 3), (0xB4#8, .zeroPageX, 2),
    (0xBC#8, .absoluteX, 3)] ∧
  ∀ (i : Instr) (s : State),
    (i.mnemonic = .lda → ∃ ea u t, resolve .plainRam i.mode s = some (ea, u) ∧ exec i s = .next t ∧
      t = { s with a := s.mem.read ea, p := t.p, port := u.port ++ [.read ea (s.mem.read ea)] } ∧
      FlagsWritten s.p t.p (znOf (s.mem.read ea))) ∧
    (i.mnemonic = .ldx → ∃ ea u t, resolve .plainRam i.mode s = some (ea, u) ∧ exec i s = .next t ∧
      t = { s with x := s.mem.read ea, p := t.p, port := u.port ++ [.read ea (s.mem.read ea)] } ∧
      FlagsWritten s.p t.p (znOf (s.mem.read ea))) ∧
    (i.mnemonic = .ldy → ∃ ea u t, resolve .plainRam i.mode s = some (ea, u) ∧ exec i s = .next t ∧
      t = { s with y := s.mem.read ea, p := t.p, port := u.port ++ [.read ea (s.mem.read ea)] } ∧
      FlagsWritten s.p t.p (znOf (s.mem.read ea)))

/-- 41_load_store_transfer.md R113 to R115: STA, STX and STY in every form write their register to the effective address; every other byte of memory,
every register and P are unchanged.
The opcode bytes are the spec's choice D1, the exact port record its D17 and D27. -/
def Obligations.StoresWriteOneByte : Prop :=
  Encodes .sta [(0x81#8, .indirectX, 2), (0x85#8, .zeroPage, 2), (0x8D#8, .absolute, 3), (0x91#8, .indirectY, 2),
    (0x95#8, .zeroPageX, 2), (0x99#8, .absoluteY, 3), (0x9D#8, .absoluteX, 3)] ∧
  Encodes .stx [(0x86#8, .zeroPage, 2), (0x8E#8, .absolute, 3), (0x96#8, .zeroPageY, 2)] ∧
  Encodes .sty [(0x84#8, .zeroPage, 2), (0x8C#8, .absolute, 3), (0x94#8, .zeroPageX, 2)] ∧
  ∀ (i : Instr) (s : State),
    (i.mnemonic = .sta → ∃ ea u t, resolve .plainRam i.mode s = some (ea, u) ∧ exec i s = .next t ∧
      t = { s with mem := t.mem, port := u.port ++ [.write ea s.a] } ∧ t.mem.read ea = s.a ∧
      ∀ b : Addr, b ≠ ea → t.mem.read b = s.mem.read b) ∧
    (i.mnemonic = .stx → ∃ ea u t, resolve .plainRam i.mode s = some (ea, u) ∧ exec i s = .next t ∧
      t = { s with mem := t.mem, port := u.port ++ [.write ea s.x] } ∧ t.mem.read ea = s.x ∧
      ∀ b : Addr, b ≠ ea → t.mem.read b = s.mem.read b) ∧
    (i.mnemonic = .sty → ∃ ea u t, resolve .plainRam i.mode s = some (ea, u) ∧ exec i s = .next t ∧
      t = { s with mem := t.mem, port := u.port ++ [.write ea s.y] } ∧ t.mem.read ea = s.y ∧
      ∀ b : Addr, b ≠ ea → t.mem.read b = s.mem.read b)

/-- 41_load_store_transfer.md R116 to R120: TAX, TAY, TXA, TYA and TSX copy their source and set Z and N from it; nothing else changes.
The opcode bytes are the spec's choice D1. -/
def Obligations.TransfersCopyARegister : Prop :=
  Encodes .tax [(0xAA#8, .implied, 1)] ∧
  Encodes .tay [(0xA8#8, .implied, 1)] ∧
  Encodes .txa [(0x8A#8, .implied, 1)] ∧
  Encodes .tya [(0x98#8, .implied, 1)] ∧
  Encodes .tsx [(0xBA#8, .implied, 1)] ∧
  ∀ s : State,
    (∃ q, exec .tax s = .next { s with x := s.a, p := q } ∧ FlagsWritten s.p q (znOf s.a)) ∧
    (∃ q, exec .tay s = .next { s with y := s.a, p := q } ∧ FlagsWritten s.p q (znOf s.a)) ∧
    (∃ q, exec .txa s = .next { s with a := s.x, p := q } ∧ FlagsWritten s.p q (znOf s.x)) ∧
    (∃ q, exec .tya s = .next { s with a := s.y, p := q } ∧ FlagsWritten s.p q (znOf s.y)) ∧
    (∃ q, exec .tsx s = .next { s with x := s.sp, p := q } ∧ FlagsWritten s.p q (znOf s.sp))

/-- 41_load_store_transfer.md R121, with the spec's decision D15: TXS copies X to SP and writes no flag; a step at a0 ends at a0 + 1 with no other change.
The opcode bytes are the spec's choice D1, the exact port record its D17 and D27. -/
def Obligations.TxsWritesOnlySp : Prop :=
  Encodes .txs [(0x9A#8, .implied, 1)] ∧
  (∀ s : State, exec .txs s = .next { s with sp := s.x }) ∧
  ∀ s : State, s.run = .running → s.mem.read s.pc = 0x9A#8 →
    step s = .next { s with sp := s.x, pc := s.pc + 1, port := [.read s.pc 0x9A#8] }

/-- 42_arithmetic_logic.md R130, R131: ADC in every form, its result modulo 256 and its four flags; D has no effect.
The opcode bytes are the spec's choice D1, the exact port record its D17 and D27. -/
def Obligations.AdcAddsWithCarry : Prop :=
  Encodes .adc [(0x61#8, .indirectX, 2), (0x65#8, .zeroPage, 2), (0x69#8, .immediate, 2), (0x6D#8, .absolute, 3),
    (0x71#8, .indirectY, 2), (0x75#8, .zeroPageX, 2), (0x79#8, .absoluteY, 3), (0x7D#8, .absoluteX, 3)] ∧
  ∀ (i : Instr) (s : State), i.mnemonic = .adc →
    ∃ ea u t, resolve .plainRam i.mode s = some (ea, u) ∧ exec i s = .next t ∧
      let m := s.mem.read ea
      let sum := s.a.toNat + m.toNat + (getFlag s.p .c).toNat
      let r := BitVec.ofNat 8 (sum % 256)
      t = { s with a := r, p := t.p, port := u.port ++ [.read ea (s.mem.read ea)] } ∧
      FlagsWritten s.p t.p ([(.c, decide (sum > 255)),
        (.v, (s.a.getLsbD 7 == m.getLsbD 7) && (r.getLsbD 7 != m.getLsbD 7))] ++ znOf r)

/-- 42_arithmetic_logic.md R132: SBC in every form leaves A - m - (1 - C) modulo 256; all four flags are those of adding (0 - m) - 1 to A with the carry, its overflow test
included.
The opcode bytes are the spec's choice D1, the exact port record its D17 and D27. -/
def Obligations.SbcSubtractsWithBorrow : Prop :=
  Encodes .sbc [(0xE1#8, .indirectX, 2), (0xE5#8, .zeroPage, 2), (0xE9#8, .immediate, 2), (0xED#8, .absolute, 3),
    (0xF1#8, .indirectY, 2), (0xF5#8, .zeroPageX, 2), (0xF9#8, .absoluteY, 3), (0xFD#8, .absoluteX, 3)] ∧
  ∀ (i : Instr) (s : State), i.mnemonic = .sbc →
    ∃ ea u t, resolve .plainRam i.mode s = some (ea, u) ∧ exec i s = .next t ∧
      let m := s.mem.read ea
      let n := (0#8 - m) - 1#8
      let r := BitVec.ofNat 8 ((s.a.toNat + 512 - m.toNat - (1 - (getFlag s.p .c).toNat)) % 256)
      t = { s with a := r, p := t.p, port := u.port ++ [.read ea (s.mem.read ea)] } ∧
      FlagsWritten s.p t.p ([(.c, decide (s.a.toNat + n.toNat + (getFlag s.p .c).toNat > 255)),
        (.v, (s.a.getLsbD 7 == n.getLsbD 7) && (r.getLsbD 7 != n.getLsbD 7))] ++ znOf r)

/-- 42_arithmetic_logic.md R141, R132: for all a, m and c the ADC result, its carry and its overflow, which is overflow of the signed sum; SBC is ADC of the
complement, its carry the absence of a borrow and its overflow that of the signed difference. -/
def Obligations.AluLawsForAllInputs : Prop :=
  ∀ (a m : Byte) (c : Bool),
    (addResult a m c).toNat = (a.toNat + m.toNat + c.toNat) % 256 ∧
    addCarry a m c = decide (a.toNat + m.toNat + c.toNat > 255) ∧
    addOverflow a m c = decide (a.toInt + m.toInt + c.toNat < -128 ∨ 127 < a.toInt + m.toInt + c.toNat) ∧
    sbcOperand m = ~~~m ∧ (∀ s : State, s.addToA (sbcOperand m) = s.addToA (~~~m)) ∧
    addCarry a (sbcOperand m) c = decide (m.toNat + (1 - c.toNat) ≤ a.toNat) ∧
    addOverflow a (sbcOperand m) c =
      decide (a.toInt - m.toInt - (1 - c.toNat) < -128 ∨ 127 < a.toInt - m.toInt - (1 - c.toNat))

/-- 42_arithmetic_logic.md R133 to R135: AND, ORA and EOR in every form; Z and N of the result, no other flag.
The opcode bytes are the spec's choice D1, the exact port record its D17 and D27. -/
def Obligations.LogicCombinesBits : Prop :=
  Encodes .and [(0x21#8, .indirectX, 2), (0x25#8, .zeroPage, 2), (0x29#8, .immediate, 2), (0x2D#8, .absolute, 3),
    (0x31#8, .indirectY, 2), (0x35#8, .zeroPageX, 2), (0x39#8, .absoluteY, 3), (0x3D#8, .absoluteX, 3)] ∧
  Encodes .ora [(0x01#8, .indirectX, 2), (0x05#8, .zeroPage, 2), (0x09#8, .immediate, 2), (0x0D#8, .absolute, 3),
    (0x11#8, .indirectY, 2), (0x15#8, .zeroPageX, 2), (0x19#8, .absoluteY, 3), (0x1D#8, .absoluteX, 3)] ∧
  Encodes .eor [(0x41#8, .indirectX, 2), (0x45#8, .zeroPage, 2), (0x49#8, .immediate, 2), (0x4D#8, .absolute, 3),
    (0x51#8, .indirectY, 2), (0x55#8, .zeroPageX, 2), (0x59#8, .absoluteY, 3), (0x5D#8, .absoluteX, 3)] ∧
  ∀ (i : Instr) (s : State),
    (i.mnemonic = .and → ∃ ea u t, resolve .plainRam i.mode s = some (ea, u) ∧ exec i s = .next t ∧
      t = { s with a := s.a &&& s.mem.read ea, p := t.p, port := u.port ++ [.read ea (s.mem.read ea)] } ∧
      FlagsWritten s.p t.p (znOf (s.a &&& s.mem.read ea))) ∧
    (i.mnemonic = .ora → ∃ ea u t, resolve .plainRam i.mode s = some (ea, u) ∧ exec i s = .next t ∧
      t = { s with a := s.a ||| s.mem.read ea, p := t.p, port := u.port ++ [.read ea (s.mem.read ea)] } ∧
      FlagsWritten s.p t.p (znOf (s.a ||| s.mem.read ea))) ∧
    (i.mnemonic = .eor → ∃ ea u t, resolve .plainRam i.mode s = some (ea, u) ∧ exec i s = .next t ∧
      t = { s with a := s.a ^^^ s.mem.read ea, p := t.p, port := u.port ++ [.read ea (s.mem.read ea)] } ∧
      FlagsWritten s.p t.p (znOf (s.a ^^^ s.mem.read ea)))

/-- 42_arithmetic_logic.md R136: BIT in both forms writes Z from A & m and V and N from bits 6 and 7 of m; nothing else changes.
The opcode bytes are the spec's choice D1, the exact port record its D17 and D27. -/
def Obligations.BitTestsAgainstA : Prop :=
  Encodes .bit [(0x24#8, .zeroPage, 2), (0x2C#8, .absolute, 3)] ∧
  ∀ (i : Instr) (s : State), i.mnemonic = .bit →
    ∃ ea u t, resolve .plainRam i.mode s = some (ea, u) ∧ exec i s = .next t ∧
      let m := s.mem.read ea
      t = { s with p := t.p, port := u.port ++ [.read ea (s.mem.read ea)] } ∧
      FlagsWritten s.p t.p [(.z, decide (s.a &&& m = 0)), (.v, m.getLsbD 6), (.n, m.getLsbD 7)]

/-- 42_arithmetic_logic.md R137 to R140: CMP, CPX and CPY in every form; C when the register is at least the operand, unsigned, Z and N of the wrapped
difference; no register is written.
The opcode bytes are the spec's choice D1, the exact port record its D17 and D27. -/
def Obligations.ComparesWriteOnlyCZN : Prop :=
  Encodes .cmp [(0xC1#8, .indirectX, 2), (0xC5#8, .zeroPage, 2), (0xC9#8, .immediate, 2), (0xCD#8, .absolute, 3),
    (0xD1#8, .indirectY, 2), (0xD5#8, .zeroPageX, 2), (0xD9#8, .absoluteY, 3), (0xDD#8, .absoluteX, 3)] ∧
  Encodes .cpx [(0xE0#8, .immediate, 2), (0xE4#8, .zeroPage, 2), (0xEC#8, .absolute, 3)] ∧
  Encodes .cpy [(0xC0#8, .immediate, 2), (0xC4#8, .zeroPage, 2), (0xCC#8, .absolute, 3)] ∧
  ∀ (i : Instr) (s : State),
    (i.mnemonic = .cmp → ∃ ea u t, resolve .plainRam i.mode s = some (ea, u) ∧ exec i s = .next t ∧
      t = { s with p := t.p, port := u.port ++ [.read ea (s.mem.read ea)] } ∧
      FlagsWritten s.p t.p ([(.c, decide ((s.mem.read ea).toNat ≤ s.a.toNat))] ++ znOf (s.a - s.mem.read ea))) ∧
    (i.mnemonic = .cpx → ∃ ea u t, resolve .plainRam i.mode s = some (ea, u) ∧ exec i s = .next t ∧
      t = { s with p := t.p, port := u.port ++ [.read ea (s.mem.read ea)] } ∧
      FlagsWritten s.p t.p ([(.c, decide ((s.mem.read ea).toNat ≤ s.x.toNat))] ++ znOf (s.x - s.mem.read ea))) ∧
    (i.mnemonic = .cpy → ∃ ea u t, resolve .plainRam i.mode s = some (ea, u) ∧ exec i s = .next t ∧
      t = { s with p := t.p, port := u.port ++ [.read ea (s.mem.read ea)] } ∧
      FlagsWritten s.p t.p ([(.c, decide ((s.mem.read ea).toNat ≤ s.y.toNat))] ++ znOf (s.y - s.mem.read ea)))

/-- 43_shift_incdec.md R150 to R153, R160 and 40_dispatch_and_addressing.md R101: ASL, LSR, ROL and ROR of A and of memory: the result, the bit shifted out
in C (bit 0 for the right-moving ones), Z and N; one byte of memory changes in the memory forms, none in the accumulator forms.
The carry from bit 0 of LSR and ROR is the spec's own resolution C1 and decision D18 (log entry 15).
The opcode bytes are the spec's choice D1, the exact port record its D17 and D27. -/
def Obligations.ShiftsAndRotates : Prop :=
  Encodes .asl [(0x06#8, .zeroPage, 2), (0x0A#8, .accumulator, 1), (0x0E#8, .absolute, 3), (0x16#8, .zeroPageX, 2),
    (0x1E#8, .absoluteX, 3)] ∧
  Encodes .lsr [(0x46#8, .zeroPage, 2), (0x4A#8, .accumulator, 1), (0x4E#8, .absolute, 3), (0x56#8, .zeroPageX, 2),
    (0x5E#8, .absoluteX, 3)] ∧
  Encodes .rol [(0x26#8, .zeroPage, 2), (0x2A#8, .accumulator, 1), (0x2E#8, .absolute, 3), (0x36#8, .zeroPageX, 2),
    (0x3E#8, .absoluteX, 3)] ∧
  Encodes .ror [(0x66#8, .zeroPage, 2), (0x6A#8, .accumulator, 1), (0x6E#8, .absolute, 3), (0x76#8, .zeroPageX, 2),
    (0x7E#8, .absoluteX, 3)] ∧
  ∀ (i : Instr) (s : State), [Mnemonic.asl, .lsr, .rol, .ror].contains i.mnemonic = true →
    let cin := getFlag s.p .c
    (i.form = .accumulator → ∃ t r cout, shiftResult i.mnemonic s.a cin = some (r, cout) ∧ exec i s = .next t ∧
      t = { s with a := BitVec.ofNat 8 r, p := t.p } ∧
      FlagsWritten s.p t.p ([(.c, cout)] ++ znOf (BitVec.ofNat 8 r))) ∧
    (i.form ≠ .accumulator → ∃ ea u t r cout, resolve .plainRam i.mode s = some (ea, u) ∧
      shiftResult i.mnemonic (s.mem.read ea) cin = some (r, cout) ∧ exec i s = .next t ∧
      t = { s with
        p := t.p
        mem := t.mem
        port := u.port ++ [.read ea (s.mem.read ea), .write ea (BitVec.ofNat 8 r)] } ∧
      t.mem.read ea = BitVec.ofNat 8 r ∧
      (∀ b : Addr, b ≠ ea → t.mem.read b = s.mem.read b) ∧
      FlagsWritten s.p t.p ([(.c, cout)] ++ znOf (BitVec.ofNat 8 r)))

/-- 43_shift_incdec.md R154, R155: INC and DEC in every form, modulo 256; Z and N of the result, C and V unchanged; one byte of memory changes.
The opcode bytes are the spec's choice D1, the exact port record its D17 and D27. -/
def Obligations.MemoryIncrementAndDecrement : Prop :=
  Encodes .inc [(0xE6#8, .zeroPage, 2), (0xEE#8, .absolute, 3), (0xF6#8, .zeroPageX, 2), (0xFE#8, .absoluteX, 3)] ∧
  Encodes .dec [(0xC6#8, .zeroPage, 2), (0xCE#8, .absolute, 3), (0xD6#8, .zeroPageX, 2), (0xDE#8, .absoluteX, 3)] ∧
  ∀ (i : Instr) (s : State),
    (i.mnemonic = .inc → ∃ ea u t, resolve .plainRam i.mode s = some (ea, u) ∧ exec i s = .next t ∧
      let r := BitVec.ofNat 8 (((s.mem.read ea).toNat + 1) % 256)
      t = { s with p := t.p, mem := t.mem, port := u.port ++ [.read ea (s.mem.read ea), .write ea r] } ∧
      t.mem.read ea = r ∧
      (∀ b : Addr, b ≠ ea → t.mem.read b = s.mem.read b) ∧ FlagsWritten s.p t.p (znOf r)) ∧
    (i.mnemonic = .dec → ∃ ea u t, resolve .plainRam i.mode s = some (ea, u) ∧ exec i s = .next t ∧
      let r := BitVec.ofNat 8 (((s.mem.read ea).toNat + 255) % 256)
      t = { s with p := t.p, mem := t.mem, port := u.port ++ [.read ea (s.mem.read ea), .write ea r] } ∧
      t.mem.read ea = r ∧
      (∀ b : Addr, b ≠ ea → t.mem.read b = s.mem.read b) ∧ FlagsWritten s.p t.p (znOf r))

/-- 43_shift_incdec.md R156 to R159: INX, INY, DEX and DEY, modulo 256, with Z and N of the result; nothing else changes.
The opcode bytes are the spec's choice D1. -/
def Obligations.IndexIncrementAndDecrement : Prop :=
  Encodes .inx [(0xE8#8, .implied, 1)] ∧
  Encodes .iny [(0xC8#8, .implied, 1)] ∧
  Encodes .dex [(0xCA#8, .implied, 1)] ∧
  Encodes .dey [(0x88#8, .implied, 1)] ∧
  ∀ s : State,
    (let r := BitVec.ofNat 8 ((s.x.toNat + 1) % 256)
      ∃ q, exec .inx s = .next { s with x := r, p := q } ∧ FlagsWritten s.p q (znOf r)) ∧
    (let r := BitVec.ofNat 8 ((s.y.toNat + 1) % 256)
      ∃ q, exec .iny s = .next { s with y := r, p := q } ∧ FlagsWritten s.p q (znOf r)) ∧
    (let r := BitVec.ofNat 8 ((s.x.toNat + 255) % 256)
      ∃ q, exec .dex s = .next { s with x := r, p := q } ∧ FlagsWritten s.p q (znOf r)) ∧
    (let r := BitVec.ofNat 8 ((s.y.toNat + 255) % 256)
      ∃ q, exec .dey s = .next { s with y := r, p := q } ∧ FlagsWritten s.p q (znOf r))

/-- 44_stack.md R170 to R175: a push writes the byte at 0x0100 + SP and then decrements SP, a pop increments SP and then reads, both modulo 256; a 16-bit push
puts the high byte at the higher SP, and the pop gives the word back with SP restored, the wrap at the page boundary included.
The stack base is the spec's decision D3, the pop order its resolution C2. -/
def Obligations.WordsRoundTripThroughTheStack : Prop :=
  (∀ (s : State) (v : Byte), s.push .plainRam v =
    { s with sp := BitVec.ofNat 8 (s.sp.toNat + 255), mem := s.mem.write (stackByte s.sp) v,
             port := s.port ++ [.write (stackByte s.sp) v] }) ∧
  (∀ s : State,
    let sp := BitVec.ofNat 8 (s.sp.toNat + 1)
    s.pop .plainRam = (s.mem.read (stackByte sp),
      { s with sp := sp, port := s.port ++ [.read (stackByte sp) (s.mem.read (stackByte sp))] })) ∧
  ∀ (s : State) (w : Addr),
    let t := s.push16 .plainRam w
    let hi := BitVec.ofNat 8 (w.toNat / 256)
    let lo := BitVec.ofNat 8 (w.toNat % 256)
    t = { s with sp := s.sp - 2, mem := t.mem,
                 port := s.port ++ [.write (stackByte s.sp) hi, .write (stackByte (s.sp - 1)) lo] } ∧
    t.mem.read (stackByte s.sp) = hi ∧ t.mem.read (stackByte (s.sp - 1)) = lo ∧
    (∀ b : Addr, b ≠ stackByte s.sp → b ≠ stackByte (s.sp - 1) → t.mem.read b = s.mem.read b) ∧
    t.pop16 .plainRam = (w,
      { t with sp := s.sp, port := t.port ++ [.read (stackByte (s.sp - 1)) lo, .read (stackByte s.sp) hi] })

/-- 44_stack.md R176, R177: PHA pushes A, PHP pushes P with bits 4 and 5 set; SP drops by one with a wrap; P and every other byte of memory stay.
The stack base is the spec's decision D3, bits 4 and 5 of PHP its D10. -/
def Obligations.PushesStoreOneStackByte : Prop :=
  Encodes .pha [(0x48#8, .implied, 1)] ∧
  Encodes .php [(0x08#8, .implied, 1)] ∧
  ∀ s : State,
    let spec := fun (i : Instr) (v : Byte) => ∃ t, exec i s = .next t ∧
      t = { s with sp := s.sp - 1, mem := t.mem, port := s.port ++ [.write (stackByte s.sp) v] } ∧
      t.mem.read (stackByte s.sp) = v ∧ ∀ b : Addr, b ≠ stackByte s.sp → t.mem.read b = s.mem.read b
    spec .pha s.a ∧ spec .php (s.p ||| 0x30)

/-- 44_stack.md R178, R179: PLA loads A and sets Z and N; PLP loads P with B forced to 0 and bit 5 to 1; SP rises by one with a wrap; memory stays.
The stack base is the spec's decision D3, bits 4 and 5 of PLP its D11. -/
def Obligations.PullsLoadFromTheStack : Prop :=
  Encodes .pla [(0x68#8, .implied, 1)] ∧
  Encodes .plp [(0x28#8, .implied, 1)] ∧
  ∀ s : State,
    let v := s.mem.read (stackByte (s.sp + 1))
    let port := s.port ++ [.read (stackByte (s.sp + 1)) v]
    (∃ q, exec .pla s = .next { s with a := v, sp := s.sp + 1, p := q, port := port } ∧
      FlagsWritten s.p q (znOf v)) ∧
    exec .plp s = .next { s with p := (v &&& 0xCF) ||| 0x20, sp := s.sp + 1, port := port }

/-- 45_control.md R190 to R198: a branch not taken changes nothing and reads nothing; a taken one adds the signed displacement to the address after it; the step
ends at a0 + 2 plus the displacement, or at a0 + 2 when not taken or when the displacement is 0xFF.
The wrap is the spec's D13, the missing read of a branch not taken its D19. -/
def Obligations.BranchesGoRelativeToTheNextInstruction : Prop :=
  Encodes .bcc [(0x90#8, .relative, 2)] ∧
  Encodes .bcs [(0xB0#8, .relative, 2)] ∧
  Encodes .beq [(0xF0#8, .relative, 2)] ∧
  Encodes .bne [(0xD0#8, .relative, 2)] ∧
  Encodes .bmi [(0x30#8, .relative, 2)] ∧
  Encodes .bpl [(0x10#8, .relative, 2)] ∧
  Encodes .bvc [(0x50#8, .relative, 2)] ∧
  Encodes .bvs [(0x70#8, .relative, 2)] ∧
  (∀ (i : Instr) (s : State) (taken : Bool), branchCondition i.mnemonic s.p = some taken →
    let d := s.mem.read s.pc
    exec i s = .next (if taken then
      { s with pc := s.pc + 1 + BitVec.ofInt 16 d.toInt, port := s.port ++ [.read s.pc d] } else s)) ∧
  ∀ (i : Instr) (s : State) (taken : Bool), s.run = .running → decodeOpcode (s.mem.read s.pc) = some i →
    branchCondition i.mnemonic s.p = some taken →
    let d := s.mem.read (s.pc + 1)
    ∃ t, step s = .next t ∧
      t = { s with pc := t.pc,
                   port := .read s.pc (s.mem.read s.pc) :: if taken then [.read (s.pc + 1) d] else [] } ∧
      t.pc = if taken = true ∧ d ≠ 0xFF#8 then s.pc + 2 + BitVec.ofInt 16 d.toInt else s.pc + 2

/-- 45_control.md R199, R200 with 40_dispatch_and_addressing.md R84: JMP absolute; JMP indirect, whose high byte comes from the start of the same page when
the pointer ends in 0xFF; a target of a0 + 1 ends at a0 + 3, any other is reached exactly.
The opcode bytes are the spec's choice D1, the exact port record its D17 and D27. -/
def Obligations.JumpsLoadPc : Prop :=
  Encodes .jmp [(0x4C#8, .jumpAbsolute, 3), (0x6C#8, .jumpIndirect, 3)] ∧
  (∀ s : State,
    let p := s.pc
    let ptr := wordAt s.mem p (p + 1)
    let hiAddr := if ptr.toNat % 256 = 255 then ptr - 0x00FF else ptr + 1
    let saw := fun l : List Addr => s.port ++ l.map fun a => .read a (s.mem.read a)
    exec .jmpAbs s = .next { s with pc := ptr, port := saw [p, p + 1] } ∧
    exec .jmpInd s = .next { s with pc := wordAt s.mem ptr hiAddr, port := saw [p, p + 1, ptr, hiAddr] }) ∧
  ∀ (i : Instr) (s : State), s.run = .running → decodeOpcode (s.mem.read s.pc) = some i → i.mnemonic = .jmp →
    ∃ t u, exec i s.fetched = .next u ∧ step s = .next t ∧
      t = { u with pc := if u.pc = s.pc + 1 then s.pc + 3 else u.pc }

/-- 45_control.md R201 with 40_dispatch_and_addressing.md R84: JSR pushes the address of its last byte, high byte first, and then reads its target, so
pushed bytes that overlap its operand are seen; SP drops by two with a wrap; no other byte of memory, no register and no flag changes; a target of a0 + 1
ends at a0 + 3.
That the target is read after the push is the spec's decision D14. -/
def Obligations.JsrPushesThenJumps : Prop :=
  Encodes .jsr [(0x20#8, .jumpAbsolute, 3)] ∧
  (∀ s : State, ∃ t, exec .jsr s = .next t ∧
    let hi := BitVec.ofNat 8 ((s.pc + 1).toNat / 256)
    let lo := BitVec.ofNat 8 ((s.pc + 1).toNat % 256)
    t = { s with sp := s.sp - 2, mem := t.mem, pc := wordAt t.mem s.pc (s.pc + 1),
                 port := s.port ++ [.write (stackByte s.sp) hi, .write (stackByte (s.sp - 1)) lo,
                   .read s.pc (t.mem.read s.pc), .read (s.pc + 1) (t.mem.read (s.pc + 1))] } ∧
    t.mem.read (stackByte s.sp) = hi ∧ t.mem.read (stackByte (s.sp - 1)) = lo ∧
    ∀ b : Addr, b ≠ stackByte s.sp → b ≠ stackByte (s.sp - 1) → t.mem.read b = s.mem.read b) ∧
  ∀ s : State, s.run = .running → s.mem.read s.pc = 0x20#8 →
    ∃ t u, exec .jsr s.fetched = .next u ∧ step s = .next t ∧
      t = { u with pc := if u.pc = s.pc + 1 then s.pc + 3 else u.pc }

/-- 45_control.md R202, R203: RTS pops PC and adds one; RTI pops P as PLP does and then PC with no addition; memory and the other registers stay; neither
skips a byte afterwards.
RTI's missing + 1 is the spec's decision D9, its handling of bits 4 and 5 D11. -/
def Obligations.ReturnsPopPc : Prop :=
  Encodes .rts [(0x60#8, .implied, 1)] ∧
  Encodes .rti [(0x40#8, .implied, 1)] ∧
  (∀ s : State,
    let a := fun n : Byte => stackByte (s.sp + n)
    let saw := fun l : List Addr => s.port ++ l.map fun b => .read b (s.mem.read b)
    exec .rts s = .next { s with sp := s.sp + 2, pc := wordAt s.mem (a 1) (a 2) + 1, port := saw [a 1, a 2] } ∧
    exec .rti s = .next { s with sp := s.sp + 3, p := (s.mem.read (a 1) &&& 0xCF) ||| 0x20,
                                 pc := wordAt s.mem (a 2) (a 3), port := saw [a 1, a 2, a 3] }) ∧
  ∀ (i : Instr) (s : State), s.run = .running → decodeOpcode (s.mem.read s.pc) = some i →
    i.mnemonic = .rts ∨ i.mnemonic = .rti → step s = exec i s.fetched

/-- 45_control.md R206 with R201 and R202: an RTS that finds the stack pointer and the two stack bytes as a JSR left them continues behind the JSR, with SP as
before the call; the rest of memory and the other registers may hold anything, and stay. -/
def Obligations.RtsReturnsBehindTheJsr : Prop :=
  ∀ s t u : State, exec .jsr s = .next t → u.sp = t.sp →
    u.mem.read (stackByte s.sp) = t.mem.read (stackByte s.sp) →
    u.mem.read (stackByte (s.sp - 1)) = t.mem.read (stackByte (s.sp - 1)) →
    ∃ v, exec .rts u = .next v ∧ v = { u with pc := s.pc + 2, sp := s.sp, port := v.port }

/-- 45_control.md R205: NOP, opcode 0xEA; a step at a0 ends at a0 + 1 with no other change.
The opcode bytes are the spec's choice D1, the exact port record its D17 and D27. -/
def Obligations.NopChangesNothing : Prop :=
  Encodes .nop [(0xEA#8, .implied, 1)] ∧
  (∀ s : State, exec .nop s = .next s) ∧
  ∀ s : State, s.run = .running → s.mem.read s.pc = 0xEA#8 →
    step s = .next { s with pc := s.pc + 1, port := [.read s.pc 0xEA#8] }

/-- 46_flags.md R220 to R226 with the layout of 10_state.md R25: C is bit 0 of P, Z bit 1, I bit 2, D bit 3, B bit 4, U bit 5, V bit 6 and N bit 7; each of the
seven instructions writes exactly its bit of P and nothing else.
The bit numbers are the spec's decision D2, the opcode bytes its D1 (log entry 15). -/
def Obligations.FlagInstructionsWriteOneBit : Prop :=
  Encodes .clc [(0x18#8, .implied, 1)] ∧
  Encodes .cld [(0xD8#8, .implied, 1)] ∧
  Encodes .cli [(0x58#8, .implied, 1)] ∧
  Encodes .clv [(0xB8#8, .implied, 1)] ∧
  Encodes .sec [(0x38#8, .implied, 1)] ∧
  Encodes .sed [(0xF8#8, .implied, 1)] ∧
  Encodes .sei [(0x78#8, .implied, 1)] ∧
  (∀ (p : Byte) (f : Flag), getFlag p f = p.getLsbD
    (match f with | .c => 0 | .z => 1 | .i => 2 | .d => 3 | .b => 4 | .u => 5 | .v => 6 | .n => 7)) ∧
  ∀ s : State,
    (exec .clc s = .next { s with p := s.p &&& 0xFE#8 } ∧
      FlagsWritten s.p (s.p &&& 0xFE#8) [(.c, false)]) ∧
    (exec .cld s = .next { s with p := s.p &&& 0xF7#8 } ∧
      FlagsWritten s.p (s.p &&& 0xF7#8) [(.d, false)]) ∧
    (exec .cli s = .next { s with p := s.p &&& 0xFB#8 } ∧
      FlagsWritten s.p (s.p &&& 0xFB#8) [(.i, false)]) ∧
    (exec .clv s = .next { s with p := s.p &&& 0xBF#8 } ∧
      FlagsWritten s.p (s.p &&& 0xBF#8) [(.v, false)]) ∧
    (exec .sec s = .next { s with p := s.p ||| 0x01#8 } ∧
      FlagsWritten s.p (s.p ||| 0x01#8) [(.c, true)]) ∧
    (exec .sed s = .next { s with p := s.p ||| 0x08#8 } ∧
      FlagsWritten s.p (s.p ||| 0x08#8) [(.d, true)]) ∧
    (exec .sei s = .next { s with p := s.p ||| 0x04#8 } ∧
      FlagsWritten s.p (s.p ||| 0x04#8) [(.i, true)])

/-- The memory frame of every instruction (20_memory.md R46, R47; 44_stack.md R170): a form that stores to its effective address changes that byte only; a push
changes its stack byte only, JSR its two; every other form leaves all of memory as it was. -/
def Obligations.MemoryChangesOnlyWhereStored : Prop :=
  ∀ (i : Instr) (s : State),
    (i.storesToEA = true → ∃ ea t, effectiveAddress i.mode s = some ea ∧ exec i s = .next t ∧
      t = { s with p := t.p, mem := t.mem, port := t.port } ∧ ∀ b : Addr, b ≠ ea → t.mem.read b = s.mem.read b) ∧
    (i.pushes = true → ∃ t, exec i s = .next t ∧
      t = { s with sp := t.sp, pc := t.pc, mem := t.mem, port := t.port } ∧
      ∀ b : Addr, b ≠ stackByte s.sp → (i = .jsr → b ≠ stackByte (s.sp - 1)) → t.mem.read b = s.mem.read b) ∧
    (i.storesToEA = false → i.pushes = false → ∃ t, exec i s = .next t ∧
      ∀ b : Addr, t.mem.read b = s.mem.read b)

/-- 10_state.md R22 and R29, the writers: an instruction that is not listed as a writer of A, X, Y or SP leaves it unchanged, and one that is no control
instruction leaves PC to the advance. -/
def Obligations.RegistersChangeOnlyByTheirWriters : Prop :=
  ∀ (i : Instr) (s : State), ∃ t, exec i s = .next t ∧
    (i.writesA = false → t.a = s.a) ∧ (i.writesX = false → t.x = s.x) ∧ (i.writesY = false → t.y = s.y) ∧
    (i.writesSp = false → t.sp = s.sp) ∧ (i.mnemonic.isControl = false → t.pc = s.pc)

/-- 10_state.md R26, the writers, and R28: a flag changes only in an instruction that R26 lists as its writer; PLP and RTI leave B = 0 and U = 1. -/
def Obligations.FlagsChangeOnlyByTheirWriters : Prop :=
  ∀ (i : Instr) (s : State), ∃ t, exec i s = .next t ∧
    (∀ f : Flag, i.mnemonic ∉ flagWriters f → getFlag t.p f = getFlag s.p f) ∧
    (i.mnemonic = .plp ∨ i.mnemonic = .rti → getFlag t.p .b = false ∧ getFlag t.p .u = true)

/-- 10_state.md R26, the readers, and R34: two states that differ in one flag run alike, up to that flag, in every instruction that R26 does not list as its
reader; so P.I and P.D reach nothing but PHP. -/
def Obligations.FlagsAreSeenOnlyByTheirReaders : Prop :=
  ∀ (i : Instr) (f : Flag) (b : Bool) (s : State), i.mnemonic ∉ flagReaders f →
    ∃ t u, exec i s = .next t ∧ exec i { s with p := setFlag s.p f b } = .next u ∧
      u = { t with p := u.p } ∧ ∀ g : Flag, g ≠ f → getFlag u.p g = getFlag t.p g

/-- 10_state.md R22, the readers: two states that differ in A, X or Y alone run alike, up to that register, in every instruction that R22 does not list as its
reader. -/
def Obligations.RegistersAreSeenOnlyByTheirReaders : Prop :=
  ∀ (i : Instr) (s : State) (v : Byte),
    (i.readsA = false → ∃ t u, exec i s = .next t ∧ exec i { s with a := v } = .next u ∧ u = { t with a := u.a }) ∧
    (i.readsX = false → ∃ t u, exec i s = .next t ∧ exec i { s with x := v } = .next u ∧ u = { t with x := u.x }) ∧
    (i.readsY = false → ∃ t u, exec i s = .next t ∧ exec i { s with y := v } = .next u ∧ u = { t with y := u.y })

/-- 10_state.md R27 (bit 5 of P stays 1) and R28 (B stays 0), with the canonical form of memory: kept by every step, and so by every run.
The values of bits 4 and 5 are the spec's D5 and D11. -/
def Obligations.EveryStepKeepsTheInvariant : Prop :=
  (∀ s t : State, s.Inv → step s = .next t → t.Inv) ∧ ∀ (n : Nat) (s t : State), s.Inv → Steps n s t → t.Inv

/-- 10_state.md R27 and 70_reset_and_hazards.md R260: the invariant holds in State.reset, and after a reset of any core with canonical memory. -/
def Obligations.ResetEstablishesTheInvariant : Prop :=
  State.reset.Inv ∧ ∀ s : State, s.run ≠ .running → s.mem.wf = true →
    ∃ t, hostReset .plainRam s = .next t ∧ t.Inv

/-- 20_memory.md R53, R47: the port record of a step starts with the opcode fetch at PC, every read in it returns what memory holds at that point, and its
writes, made in order on the memory before the step, give the memory after it.
The record is log entry 4's. -/
def Obligations.StepRecordReplaysOnMemory : Prop :=
  ∀ s t : State, step s = .next t →
    t.port.head? = some (.read s.pc (s.mem.read s.pc)) ∧ replay s.mem t.port = some t.mem

/-- 20_memory.md R46, R47 with 41_load_store_transfer.md R113 to R115 and 43_shift_incdec.md R150 to R155, R160, on any bus: after the resolver's reads an
operand-reading instruction makes one read; a store one write of A, X or Y without a read; a read-modify-write one read and one write, at the same address, of
f of the byte read, with the flags of f. The accumulator and implied forms without the stack make none.
The carry from bit 0 of LSR and ROR is the spec's resolution C1 and decision D18 (log entry 15). -/
def Obligations.AddressedAccessLists : Prop :=
  ∀ (bus : Bus) (i : Instr) (s : State),
    ([Mnemonic.lda, .ldx, .ldy, .adc, .sbc, .and, .ora, .eor, .bit, .cmp, .cpx, .cpy].contains i.mnemonic = true →
      ∃ (ea : Addr) (u t : State), resolve bus i.mode s = some (ea, u) ∧ execute bus i s = .next t ∧
        t.port = u.port ++ [.read ea (bus.read u.mem ea).1] ∧ t.mem = (bus.read u.mem ea).2) ∧
    (∀ v : Byte, (i.mnemonic = .sta ∧ v = s.a) ∨ (i.mnemonic = .stx ∧ v = s.x) ∨ (i.mnemonic = .sty ∧ v = s.y) →
      ∃ (ea : Addr) (u : State), resolve bus i.mode s = some (ea, u) ∧ execute bus i s = .next
        { s with mem := bus.write u.mem ea v, port := u.port ++ [.write ea v] }) ∧
    (i.storesToEA = true → [Mnemonic.sta, .stx, .sty].contains i.mnemonic = false →
      ∃ (ea : Addr) (u : State) (r q : Byte) (l : List (Flag × Bool)), resolve bus i.mode s = some (ea, u) ∧
        modifyResult i.mnemonic (bus.read u.mem ea).1 (getFlag s.p .c) = some (r, l) ∧
        execute bus i s = .next
          { s with p := q, mem := bus.write (bus.read u.mem ea).2 ea r,
                   port := u.port ++ [.read ea (bus.read u.mem ea).1, .write ea r] } ∧
        FlagsWritten s.p q l) ∧
    (i.form = .accumulator ∨ (i.form = .implied ∧
        [Mnemonic.pha, .php, .pla, .plp, .rts, .rti].contains i.mnemonic = false) →
      ∃ (t : State), execute bus i s = .next t ∧ t.port = s.port ∧ t.mem = s.mem)

/-- 44_stack.md R170 to R179 and 45_control.md R190, R199 to R203 with 20_memory.md R46, R47, on any bus: the next state of the stack instructions, the jumps, the
call, the returns and the branches, with the exact addresses, order, direction and bytes of their accesses, memory passed from one access to the next; PHA
pushes A, PHP P with bits 4 and 5 set, JSR the high and then the low byte of PC + 1.
The stack base is the spec's decision D3, RTI's missing + 1 its D9, bits 4 and 5 its D10 and D11, the wraps its D13, JSR's order its D14,
a branch not taken its D19 (log entry 15). -/
def Obligations.StackAndJumpAccessLists : Prop :=
  ∀ (bus : Bus) (s : State),
    let a : Byte → Addr := fun n => stackByte (s.sp + n)
    let p : Addr := s.pc
    let word : Byte → Byte → Addr := fun lo hi => BitVec.ofNat 16 (lo.toNat + 256 * hi.toNat)
    let r1 := bus.read s.mem (a 1)
    let r2 := bus.read r1.2 (a 2)
    let r3 := bus.read r2.2 (a 3)
    let o1 := bus.read s.mem p
    let o2 := bus.read o1.2 (p + 1)
    execute bus .pha s = .next
      { s with sp := s.sp - 1, mem := bus.write s.mem (a 0) s.a, port := s.port ++ [.write (a 0) s.a] } ∧
    execute bus .php s = .next
      { s with sp := s.sp - 1, mem := bus.write s.mem (a 0) (s.p ||| 0x30#8),
               port := s.port ++ [.write (a 0) (s.p ||| 0x30#8)] } ∧
    (∃ q : Byte, execute bus .pla s = .next
      { s with a := r1.1, sp := s.sp + 1, p := q, mem := r1.2, port := s.port ++ [.read (a 1) r1.1] } ∧
      FlagsWritten s.p q (znOf r1.1)) ∧
    execute bus .plp s = .next
      { s with p := (r1.1 &&& 0xCF#8) ||| 0x20#8, sp := s.sp + 1, mem := r1.2,
               port := s.port ++ [.read (a 1) r1.1] } ∧
    execute bus .rts s = .next
      { s with sp := s.sp + 2, pc := word r1.1 r2.1 + 1, mem := r2.2,
               port := s.port ++ [.read (a 1) r1.1, .read (a 2) r2.1] } ∧
    execute bus .rti s = .next
      { s with sp := s.sp + 3, p := (r1.1 &&& 0xCF#8) ||| 0x20#8, pc := word r2.1 r3.1, mem := r3.2,
               port := s.port ++ [.read (a 1) r1.1, .read (a 2) r2.1, .read (a 3) r3.1] } ∧
    (let hi := BitVec.ofNat 8 ((p + 1).toNat / 256)
      let lo := BitVec.ofNat 8 ((p + 1).toNat % 256)
      let j1 := bus.read (bus.write (bus.write s.mem (a 0) hi) (a 255) lo) p
      let j2 := bus.read j1.2 (p + 1)
      execute bus .jsr s = .next
        { s with sp := s.sp - 2, pc := word j1.1 j2.1, mem := j2.2,
                 port := s.port ++ [.write (a 0) hi, .write (a 255) lo, .read p j1.1, .read (p + 1) j2.1] }) ∧
    execute bus .jmpAbs s = .next
      { s with pc := word o1.1 o2.1, mem := o2.2, port := s.port ++ [.read p o1.1, .read (p + 1) o2.1] } ∧
    (let ptr := word o1.1 o2.1
      let hiAddr := if ptr.toNat % 256 = 255 then ptr - 0x00FF#16 else ptr + 1
      let q1 := bus.read o2.2 ptr
      let q2 := bus.read q1.2 hiAddr
      execute bus .jmpInd s = .next
        { s with pc := word q1.1 q2.1, mem := q2.2,
                 port := s.port ++ [.read p o1.1, .read (p + 1) o2.1, .read ptr q1.1, .read hiAddr q2.1] }) ∧
    ∀ (i : Instr) (taken : Bool), branchCondition i.mnemonic s.p = some taken →
      execute bus i s = .next (if taken then
        { s with pc := p + 1 + BitVec.ofInt 16 o1.1.toInt, mem := o1.2, port := s.port ++ [.read p o1.1] } else s)

/-- 44_stack.md R170, R175: on any bus, whatever SP holds, every push and every pop of the stack instructions, JSR, RTS and RTI is an access in 0x0100 to
0x01FF; JSR's two operand reads are its only others. -/
def Obligations.StackAccessesStayInTheStackPage : Prop :=
  ∀ (bus : Bus) (i : Instr) (s : State),
    [Mnemonic.pha, .php, .pla, .plp, .jsr, .rts, .rti].contains i.mnemonic = true →
    ∃ t l, execute bus i s = .next t ∧ t.port = s.port ++ l ∧
      ∀ e ∈ l, (match e with
        | .read ad _ => (0x0100 ≤ ad.toNat ∧ ad.toNat ≤ 0x01FF) ∨ (i = .jsr ∧ (ad = s.pc ∨ ad = s.pc + 1))
        | .write ad _ => 0x0100 ≤ ad.toNat ∧ ad.toNat ≤ 0x01FF)

/-- 70_reset_and_hazards.md R260: the host's reset clears A, X and Y, sets P and SP to their reset values, loads PC from 0xFFFC and 0xFFFD, in that order,
sets Run to Running and writes no memory; it is refused while the loop runs (the refusal's name is the model's, log entry 9).
The values of P and SP and the order of the reads are the spec's decisions D4, D5, D7, D28. -/
def Obligations.ResetSequence : Prop :=
  ∀ s : State,
    (s.run = .running → hostReset .plainRam s = .refused .resetWhileRunning) ∧
    (s.run ≠ .running → hostReset .plainRam s = .next
      { a := 0x00, x := 0x00, y := 0x00, p := 0x24, sp := 0xFD, pc := wordAt s.mem 0xFFFC 0xFFFD, run := .running,
        mem := s.mem, port := [.read 0xFFFC (s.mem.read 0xFFFC), .read 0xFFFD (s.mem.read 0xFFFD)] })

/-- 70_reset_and_hazards.md R261, R263: the power-up values, INIT_MEM in memory, and that no step is taken before the first reset (the refusal's name is the
model's, log entry 9).
The values are the spec's decision D6. -/
def Obligations.PowerUpDefaults : Prop :=
  ∀ initMem : Memory,
    let s := State.powerUp initMem
    s.a = 0x00 ∧ s.x = 0x00 ∧ s.y = 0x00 ∧ s.p = 0x24 ∧ s.sp = 0xFD ∧ s.pc = 0x0000 ∧ s.run ≠ .running ∧
    s.mem = initMem ∧ step s = .refused .stepBeforeReset

/-- 70_reset_and_hazards.md R262, R263: after power-up, loading and reset, PC is the load base, the vector holds it, each program byte of a program that fits
the space lies at its place unless the vector covers it, and every other byte is as INIT_MEM had it.
LOAD_BASE and the order are the spec's D20 and D29; that the vector wins where it meets the program is log entry 19. -/
def Obligations.LoadedProgramStartsAtItsBase : Prop :=
  ∀ (initMem : Memory) (base : Addr) (prog : List Byte), prog.length ≤ 65536 →
    ∃ t, boot .plainRam initMem base prog = .next t ∧ t.pc = base ∧ t.run = .running ∧
      wordAt t.mem 0xFFFC 0xFFFD = base ∧
      (∀ (k : Nat) (h : k < prog.length), base + BitVec.ofNat 16 k ≠ 0xFFFC#16 → base + BitVec.ofNat 16 k ≠ 0xFFFD#16 →
        t.mem.read (base + BitVec.ofNat 16 k) = prog[k]) ∧
      ∀ b : Addr, b ≠ 0xFFFC#16 → b ≠ 0xFFFD#16 → (∀ k < prog.length, b ≠ base + BitVec.ofNat 16 k) →
        t.mem.read b = initMem.read b

/-- State.reset is what the reset of 70_reset_and_hazards.md R260 leaves of a core powered up with a memory that lists nothing. That memory, its bytes
0x00, is the model's choice (log entries 1 and 10). -/
def Obligations.ResetStateIsTheResetOfAnEmptyMemory : Prop :=
  hostReset .plainRam (State.powerUp []) = .next State.reset ∧ State.reset.a = 0x00 ∧ State.reset.x = 0x00 ∧
  State.reset.y = 0x00 ∧ State.reset.p = 0x24 ∧ State.reset.sp = 0xFD ∧ State.reset.run = .running ∧
  State.reset.mem = []

/-- 20_memory.md R56: a fetch at the address that STA, STX or STY stored to gets the stored byte, with no wait, on plain RAM.
R56 is the spec's own derivation. -/
def Obligations.StoresAreSeenByTheNextFetch : Prop :=
  ∀ (i : Instr) (s : State) (ea : Addr), effectiveAddress i.mode s = some ea →
    ∃ t, exec i s = .next t ∧
      (i.mnemonic = .sta → (State.fetch .plainRam { t with pc := ea }).1 = s.a) ∧
      (i.mnemonic = .stx → (State.fetch .plainRam { t with pc := ea }).1 = s.x) ∧
      (i.mnemonic = .sty → (State.fetch .plainRam { t with pc := ea }).1 = s.y)

/-- 40_dispatch_and_addressing.md R98 and 60_exceptions.md R232, on any bus: an addressed handler given a form without an address right after the fetch is the
fatal condition NoAddressing with the mode, the byte that the bus returned at the fetch and its address; and the execute phase of a decoded byte is that of its
handler with that byte.
That PC - 1 is the opcode's address during execute is log entry 7's; no opcode of the table is mis-wired (R98). -/
def Obligations.MisWiredOpcodeFailsLoudly : Prop :=
  (∀ (bus : Bus) (m : Mnemonic) (form : OperandForm) (s : State), form.mode = .noneAddressing →
    [Mnemonic.lda, .ldx, .ldy, .sta, .stx, .sty, .adc, .sbc, .and, .ora, .eor, .bit, .cmp, .cpx, .cpy, .inc,
      .dec].contains m = true ∨ ([Mnemonic.asl, .lsr, .rol, .ror].contains m = true ∧ form ≠ .accumulator) →
    let op := (bus.read s.mem s.pc).1
    let info := FatalInfo.noAddressing .noneAddressing op s.pc
    executeForm bus op m form (s.fetch bus).2 = .fault (.noAddressing .noneAddressing op s.pc
      { s with pc := s.pc + 1, run := .fatal info, mem := (bus.read s.mem s.pc).2, port := [.read s.pc op] })) ∧
  ∀ (bus : Bus) (op : Byte) (i : Instr) (s : State), decodeOpcode op = some i →
    execute bus i s = executeForm bus op i.mnemonic i.form s

/-- 20_memory.md R42 and R46: what an operand-reading instruction does to the registers and P depends on the bus through the byte it answers at the effective
address alone: it is what the same instruction does on plain RAM in a state with the same registers whose effective address holds that byte. -/
def Obligations.OperandInstructionsAgreeOnEveryBus : Prop :=
  ∀ (bus : Bus) (i : Instr) (s plain : State) (ea plainEA : Addr) (u : State),
    [Mnemonic.lda, .ldx, .ldy, .adc, .sbc, .and, .ora, .eor, .bit, .cmp, .cpx, .cpy].contains i.mnemonic = true →
    resolve bus i.mode s = some (ea, u) → plain = { s with mem := plain.mem, port := plain.port } →
    effectiveAddress i.mode plain = some plainEA → plain.mem.read plainEA = (bus.read u.mem ea).1 →
    ∃ t, exec i plain = .next t ∧ execute bus i s = .next
      { t with mem := (bus.read u.mem ea).2, port := u.port ++ [.read ea (bus.read u.mem ea).1] }
end

