-- ==== Sys2Proof/Laws/Bits.lean ====
section
/-! SUPPORT. The bit-field helpers as numbers, and the statements' words for them (`wordAt`, `stackByte`). -/

namespace Sys2Proof

@[simp] theorem zext16_toNat (b : Byte) : (zext16 b).toNat = b.toNat := by
  have := b.isLt
  simp [zext16]
  omega

theorem zext16_eq_ofNat (b : Byte) : zext16 b = BitVec.ofNat 16 b.toNat := by
  apply BitVec.eq_of_toNat_eq
  have := b.isLt
  simp
  omega

theorem sext16_eq_ofInt (b : Byte) : sext16 b = BitVec.ofInt 16 b.toInt := rfl

@[simp] theorem joinBytes_toNat (hi lo : Byte) : (joinBytes hi lo).toNat = hi.toNat * 256 + lo.toNat := by
  have h := BitVec.toNat_append hi lo
  have hlo := lo.isLt
  rw [← Nat.shiftLeft_add_eq_or_of_lt hlo, Nat.shiftLeft_eq] at h
  exact h

@[simp] theorem lowByte_toNat (w : Addr) : (lowByte w).toNat = w.toNat % 256 := by simp [lowByte]

@[simp] theorem highByte_toNat (w : Addr) : (highByte w).toNat = w.toNat / 256 := by
  have := w.isLt
  simp [highByte, Nat.shiftRight_eq_div_pow]
  omega

/-- The two bytes of a word joined are the word (R8). -/
@[simp] theorem joinBytes_split (w : Addr) : joinBytes (highByte w) (lowByte w) = w := by
  apply BitVec.eq_of_toNat_eq
  simp
  omega

namespace Machine

theorem wordAt_eq_joinBytes (m : Memory) (lo hi : Addr) : wordAt m lo hi = joinBytes (m.read hi) (m.read lo) := by
  apply BitVec.eq_of_toNat_eq
  have := (m.read lo).isLt
  have := (m.read hi).isLt
  simp [wordAt]
  omega

theorem stackAddr_eq_stackByte (sp : Byte) : stackAddr sp = stackByte sp := by
  apply BitVec.eq_of_toNat_eq
  have := sp.isLt
  simp [stackAddr, stackByte, Config.stackBase, BitVec.toNat_add]

@[simp] theorem stackByte_toNat (sp : Byte) : (stackByte sp).toNat = 256 + sp.toNat := by
  have := sp.isLt
  simp [stackByte]
  omega

/-- Different SP values point to different stack bytes (R170). -/
theorem stackByte_injective {a b : Byte} : stackByte a = stackByte b ↔ a = b := by
  constructor
  · intro h
    have := congrArg BitVec.toNat h
    simp at this
    exact BitVec.eq_of_toNat_eq this
  · rintro rfl
    rfl

/-- Every stack access falls in 0x0100 to 0x01FF (R170). -/
theorem stackByte_bounds (sp : Byte) : 0x0100 ≤ (stackByte sp).toNat ∧ (stackByte sp).toNat ≤ 0x01FF := by
  have := sp.isLt
  simp
  omega

end Machine

end Sys2Proof
end

