-- ==== Sys2Proof/Laws/PerInstr.lean ====
section
/-! SUPPORT. Per-instruction families (LAWS.json): one lemma for each constructor of `Instr`. -/

/-- The opcode byte of the encoder decodes, through the opcode map of R64, to the same instruction, and the descriptor's
length is that of its operand form (R62). -/
def Sys2Proof.Laws.OpcodeRoundTrip.Statement (i : Sys2Proof.Instr) : Prop :=
  Sys2Proof.decodeOpcode i.opcode = some i ∧ 1 ≤ i.length ∧ i.length ≤ 3

theorem Sys2Proof.Laws.OpcodeRoundTrip.ldaIndX : Sys2Proof.Laws.OpcodeRoundTrip.Statement .ldaIndX := ⟨rfl, by decide, by decide⟩
theorem Sys2Proof.Laws.OpcodeRoundTrip.ldaZp : Sys2Proof.Laws.OpcodeRoundTrip.Statement .ldaZp := ⟨rfl, by decide, by decide⟩
theorem Sys2Proof.Laws.OpcodeRoundTrip.ldaImm : Sys2Proof.Laws.OpcodeRoundTrip.Statement .ldaImm := ⟨rfl, by decide, by decide⟩
theorem Sys2Proof.Laws.OpcodeRoundTrip.ldaAbs : Sys2Proof.Laws.OpcodeRoundTrip.Statement .ldaAbs := ⟨rfl, by decide, by decide⟩
theorem Sys2Proof.Laws.OpcodeRoundTrip.ldaIndY : Sys2Proof.Laws.OpcodeRoundTrip.Statement .ldaIndY := ⟨rfl, by decide, by decide⟩
theorem Sys2Proof.Laws.OpcodeRoundTrip.ldaZpX : Sys2Proof.Laws.OpcodeRoundTrip.Statement .ldaZpX := ⟨rfl, by decide, by decide⟩
theorem Sys2Proof.Laws.OpcodeRoundTrip.ldaAbsY : Sys2Proof.Laws.OpcodeRoundTrip.Statement .ldaAbsY := ⟨rfl, by decide, by decide⟩
theorem Sys2Proof.Laws.OpcodeRoundTrip.ldaAbsX : Sys2Proof.Laws.OpcodeRoundTrip.Statement .ldaAbsX := ⟨rfl, by decide, by decide⟩
theorem Sys2Proof.Laws.OpcodeRoundTrip.ldxImm : Sys2Proof.Laws.OpcodeRoundTrip.Statement .ldxImm := ⟨rfl, by decide, by decide⟩
theorem Sys2Proof.Laws.OpcodeRoundTrip.ldxZp : Sys2Proof.Laws.OpcodeRoundTrip.Statement .ldxZp := ⟨rfl, by decide, by decide⟩
theorem Sys2Proof.Laws.OpcodeRoundTrip.ldxAbs : Sys2Proof.Laws.OpcodeRoundTrip.Statement .ldxAbs := ⟨rfl, by decide, by decide⟩
theorem Sys2Proof.Laws.OpcodeRoundTrip.ldxZpY : Sys2Proof.Laws.OpcodeRoundTrip.Statement .ldxZpY := ⟨rfl, by decide, by decide⟩
theorem Sys2Proof.Laws.OpcodeRoundTrip.ldxAbsY : Sys2Proof.Laws.OpcodeRoundTrip.Statement .ldxAbsY := ⟨rfl, by decide, by decide⟩
theorem Sys2Proof.Laws.OpcodeRoundTrip.ldyImm : Sys2Proof.Laws.OpcodeRoundTrip.Statement .ldyImm := ⟨rfl, by decide, by decide⟩
theorem Sys2Proof.Laws.OpcodeRoundTrip.ldyZp : Sys2Proof.Laws.OpcodeRoundTrip.Statement .ldyZp := ⟨rfl, by decide, by decide⟩
theorem Sys2Proof.Laws.OpcodeRoundTrip.ldyAbs : Sys2Proof.Laws.OpcodeRoundTrip.Statement .ldyAbs := ⟨rfl, by decide, by decide⟩
theorem Sys2Proof.Laws.OpcodeRoundTrip.ldyZpX : Sys2Proof.Laws.OpcodeRoundTrip.Statement .ldyZpX := ⟨rfl, by decide, by decide⟩
theorem Sys2Proof.Laws.OpcodeRoundTrip.ldyAbsX : Sys2Proof.Laws.OpcodeRoundTrip.Statement .ldyAbsX := ⟨rfl, by decide, by decide⟩
theorem Sys2Proof.Laws.OpcodeRoundTrip.staIndX : Sys2Proof.Laws.OpcodeRoundTrip.Statement .staIndX := ⟨rfl, by decide, by decide⟩
theorem Sys2Proof.Laws.OpcodeRoundTrip.staZp : Sys2Proof.Laws.OpcodeRoundTrip.Statement .staZp := ⟨rfl, by decide, by decide⟩
theorem Sys2Proof.Laws.OpcodeRoundTrip.staAbs : Sys2Proof.Laws.OpcodeRoundTrip.Statement .staAbs := ⟨rfl, by decide, by decide⟩
theorem Sys2Proof.Laws.OpcodeRoundTrip.staIndY : Sys2Proof.Laws.OpcodeRoundTrip.Statement .staIndY := ⟨rfl, by decide, by decide⟩
theorem Sys2Proof.Laws.OpcodeRoundTrip.staZpX : Sys2Proof.Laws.OpcodeRoundTrip.Statement .staZpX := ⟨rfl, by decide, by decide⟩
theorem Sys2Proof.Laws.OpcodeRoundTrip.staAbsY : Sys2Proof.Laws.OpcodeRoundTrip.Statement .staAbsY := ⟨rfl, by decide, by decide⟩
theorem Sys2Proof.Laws.OpcodeRoundTrip.staAbsX : Sys2Proof.Laws.OpcodeRoundTrip.Statement .staAbsX := ⟨rfl, by decide, by decide⟩
theorem Sys2Proof.Laws.OpcodeRoundTrip.stxZp : Sys2Proof.Laws.OpcodeRoundTrip.Statement .stxZp := ⟨rfl, by decide, by decide⟩
theorem Sys2Proof.Laws.OpcodeRoundTrip.stxAbs : Sys2Proof.Laws.OpcodeRoundTrip.Statement .stxAbs := ⟨rfl, by decide, by decide⟩
theorem Sys2Proof.Laws.OpcodeRoundTrip.stxZpY : Sys2Proof.Laws.OpcodeRoundTrip.Statement .stxZpY := ⟨rfl, by decide, by decide⟩
theorem Sys2Proof.Laws.OpcodeRoundTrip.styZp : Sys2Proof.Laws.OpcodeRoundTrip.Statement .styZp := ⟨rfl, by decide, by decide⟩
theorem Sys2Proof.Laws.OpcodeRoundTrip.styAbs : Sys2Proof.Laws.OpcodeRoundTrip.Statement .styAbs := ⟨rfl, by decide, by decide⟩
theorem Sys2Proof.Laws.OpcodeRoundTrip.styZpX : Sys2Proof.Laws.OpcodeRoundTrip.Statement .styZpX := ⟨rfl, by decide, by decide⟩
theorem Sys2Proof.Laws.OpcodeRoundTrip.tax : Sys2Proof.Laws.OpcodeRoundTrip.Statement .tax := ⟨rfl, by decide, by decide⟩
theorem Sys2Proof.Laws.OpcodeRoundTrip.tay : Sys2Proof.Laws.OpcodeRoundTrip.Statement .tay := ⟨rfl, by decide, by decide⟩
theorem Sys2Proof.Laws.OpcodeRoundTrip.txa : Sys2Proof.Laws.OpcodeRoundTrip.Statement .txa := ⟨rfl, by decide, by decide⟩
theorem Sys2Proof.Laws.OpcodeRoundTrip.tya : Sys2Proof.Laws.OpcodeRoundTrip.Statement .tya := ⟨rfl, by decide, by decide⟩
theorem Sys2Proof.Laws.OpcodeRoundTrip.tsx : Sys2Proof.Laws.OpcodeRoundTrip.Statement .tsx := ⟨rfl, by decide, by decide⟩
theorem Sys2Proof.Laws.OpcodeRoundTrip.txs : Sys2Proof.Laws.OpcodeRoundTrip.Statement .txs := ⟨rfl, by decide, by decide⟩
theorem Sys2Proof.Laws.OpcodeRoundTrip.adcIndX : Sys2Proof.Laws.OpcodeRoundTrip.Statement .adcIndX := ⟨rfl, by decide, by decide⟩
theorem Sys2Proof.Laws.OpcodeRoundTrip.adcZp : Sys2Proof.Laws.OpcodeRoundTrip.Statement .adcZp := ⟨rfl, by decide, by decide⟩
theorem Sys2Proof.Laws.OpcodeRoundTrip.adcImm : Sys2Proof.Laws.OpcodeRoundTrip.Statement .adcImm := ⟨rfl, by decide, by decide⟩
theorem Sys2Proof.Laws.OpcodeRoundTrip.adcAbs : Sys2Proof.Laws.OpcodeRoundTrip.Statement .adcAbs := ⟨rfl, by decide, by decide⟩
theorem Sys2Proof.Laws.OpcodeRoundTrip.adcIndY : Sys2Proof.Laws.OpcodeRoundTrip.Statement .adcIndY := ⟨rfl, by decide, by decide⟩
theorem Sys2Proof.Laws.OpcodeRoundTrip.adcZpX : Sys2Proof.Laws.OpcodeRoundTrip.Statement .adcZpX := ⟨rfl, by decide, by decide⟩
theorem Sys2Proof.Laws.OpcodeRoundTrip.adcAbsY : Sys2Proof.Laws.OpcodeRoundTrip.Statement .adcAbsY := ⟨rfl, by decide, by decide⟩
theorem Sys2Proof.Laws.OpcodeRoundTrip.adcAbsX : Sys2Proof.Laws.OpcodeRoundTrip.Statement .adcAbsX := ⟨rfl, by decide, by decide⟩
theorem Sys2Proof.Laws.OpcodeRoundTrip.sbcIndX : Sys2Proof.Laws.OpcodeRoundTrip.Statement .sbcIndX := ⟨rfl, by decide, by decide⟩
theorem Sys2Proof.Laws.OpcodeRoundTrip.sbcZp : Sys2Proof.Laws.OpcodeRoundTrip.Statement .sbcZp := ⟨rfl, by decide, by decide⟩
theorem Sys2Proof.Laws.OpcodeRoundTrip.sbcImm : Sys2Proof.Laws.OpcodeRoundTrip.Statement .sbcImm := ⟨rfl, by decide, by decide⟩
theorem Sys2Proof.Laws.OpcodeRoundTrip.sbcAbs : Sys2Proof.Laws.OpcodeRoundTrip.Statement .sbcAbs := ⟨rfl, by decide, by decide⟩
theorem Sys2Proof.Laws.OpcodeRoundTrip.sbcIndY : Sys2Proof.Laws.OpcodeRoundTrip.Statement .sbcIndY := ⟨rfl, by decide, by decide⟩
theorem Sys2Proof.Laws.OpcodeRoundTrip.sbcZpX : Sys2Proof.Laws.OpcodeRoundTrip.Statement .sbcZpX := ⟨rfl, by decide, by decide⟩
theorem Sys2Proof.Laws.OpcodeRoundTrip.sbcAbsY : Sys2Proof.Laws.OpcodeRoundTrip.Statement .sbcAbsY := ⟨rfl, by decide, by decide⟩
theorem Sys2Proof.Laws.OpcodeRoundTrip.sbcAbsX : Sys2Proof.Laws.OpcodeRoundTrip.Statement .sbcAbsX := ⟨rfl, by decide, by decide⟩
theorem Sys2Proof.Laws.OpcodeRoundTrip.andIndX : Sys2Proof.Laws.OpcodeRoundTrip.Statement .andIndX := ⟨rfl, by decide, by decide⟩
theorem Sys2Proof.Laws.OpcodeRoundTrip.andZp : Sys2Proof.Laws.OpcodeRoundTrip.Statement .andZp := ⟨rfl, by decide, by decide⟩
theorem Sys2Proof.Laws.OpcodeRoundTrip.andImm : Sys2Proof.Laws.OpcodeRoundTrip.Statement .andImm := ⟨rfl, by decide, by decide⟩
theorem Sys2Proof.Laws.OpcodeRoundTrip.andAbs : Sys2Proof.Laws.OpcodeRoundTrip.Statement .andAbs := ⟨rfl, by decide, by decide⟩
theorem Sys2Proof.Laws.OpcodeRoundTrip.andIndY : Sys2Proof.Laws.OpcodeRoundTrip.Statement .andIndY := ⟨rfl, by decide, by decide⟩
theorem Sys2Proof.Laws.OpcodeRoundTrip.andZpX : Sys2Proof.Laws.OpcodeRoundTrip.Statement .andZpX := ⟨rfl, by decide, by decide⟩
theorem Sys2Proof.Laws.OpcodeRoundTrip.andAbsY : Sys2Proof.Laws.OpcodeRoundTrip.Statement .andAbsY := ⟨rfl, by decide, by decide⟩
theorem Sys2Proof.Laws.OpcodeRoundTrip.andAbsX : Sys2Proof.Laws.OpcodeRoundTrip.Statement .andAbsX := ⟨rfl, by decide, by decide⟩
theorem Sys2Proof.Laws.OpcodeRoundTrip.oraIndX : Sys2Proof.Laws.OpcodeRoundTrip.Statement .oraIndX := ⟨rfl, by decide, by decide⟩
theorem Sys2Proof.Laws.OpcodeRoundTrip.oraZp : Sys2Proof.Laws.OpcodeRoundTrip.Statement .oraZp := ⟨rfl, by decide, by decide⟩
theorem Sys2Proof.Laws.OpcodeRoundTrip.oraImm : Sys2Proof.Laws.OpcodeRoundTrip.Statement .oraImm := ⟨rfl, by decide, by decide⟩
theorem Sys2Proof.Laws.OpcodeRoundTrip.oraAbs : Sys2Proof.Laws.OpcodeRoundTrip.Statement .oraAbs := ⟨rfl, by decide, by decide⟩
theorem Sys2Proof.Laws.OpcodeRoundTrip.oraIndY : Sys2Proof.Laws.OpcodeRoundTrip.Statement .oraIndY := ⟨rfl, by decide, by decide⟩
theorem Sys2Proof.Laws.OpcodeRoundTrip.oraZpX : Sys2Proof.Laws.OpcodeRoundTrip.Statement .oraZpX := ⟨rfl, by decide, by decide⟩
theorem Sys2Proof.Laws.OpcodeRoundTrip.oraAbsY : Sys2Proof.Laws.OpcodeRoundTrip.Statement .oraAbsY := ⟨rfl, by decide, by decide⟩
theorem Sys2Proof.Laws.OpcodeRoundTrip.oraAbsX : Sys2Proof.Laws.OpcodeRoundTrip.Statement .oraAbsX := ⟨rfl, by decide, by decide⟩
theorem Sys2Proof.Laws.OpcodeRoundTrip.eorIndX : Sys2Proof.Laws.OpcodeRoundTrip.Statement .eorIndX := ⟨rfl, by decide, by decide⟩
theorem Sys2Proof.Laws.OpcodeRoundTrip.eorZp : Sys2Proof.Laws.OpcodeRoundTrip.Statement .eorZp := ⟨rfl, by decide, by decide⟩
theorem Sys2Proof.Laws.OpcodeRoundTrip.eorImm : Sys2Proof.Laws.OpcodeRoundTrip.Statement .eorImm := ⟨rfl, by decide, by decide⟩
theorem Sys2Proof.Laws.OpcodeRoundTrip.eorAbs : Sys2Proof.Laws.OpcodeRoundTrip.Statement .eorAbs := ⟨rfl, by decide, by decide⟩
theorem Sys2Proof.Laws.OpcodeRoundTrip.eorIndY : Sys2Proof.Laws.OpcodeRoundTrip.Statement .eorIndY := ⟨rfl, by decide, by decide⟩
theorem Sys2Proof.Laws.OpcodeRoundTrip.eorZpX : Sys2Proof.Laws.OpcodeRoundTrip.Statement .eorZpX := ⟨rfl, by decide, by decide⟩
theorem Sys2Proof.Laws.OpcodeRoundTrip.eorAbsY : Sys2Proof.Laws.OpcodeRoundTrip.Statement .eorAbsY := ⟨rfl, by decide, by decide⟩
theorem Sys2Proof.Laws.OpcodeRoundTrip.eorAbsX : Sys2Proof.Laws.OpcodeRoundTrip.Statement .eorAbsX := ⟨rfl, by decide, by decide⟩
theorem Sys2Proof.Laws.OpcodeRoundTrip.bitZp : Sys2Proof.Laws.OpcodeRoundTrip.Statement .bitZp := ⟨rfl, by decide, by decide⟩
theorem Sys2Proof.Laws.OpcodeRoundTrip.bitAbs : Sys2Proof.Laws.OpcodeRoundTrip.Statement .bitAbs := ⟨rfl, by decide, by decide⟩
theorem Sys2Proof.Laws.OpcodeRoundTrip.cmpIndX : Sys2Proof.Laws.OpcodeRoundTrip.Statement .cmpIndX := ⟨rfl, by decide, by decide⟩
theorem Sys2Proof.Laws.OpcodeRoundTrip.cmpZp : Sys2Proof.Laws.OpcodeRoundTrip.Statement .cmpZp := ⟨rfl, by decide, by decide⟩
theorem Sys2Proof.Laws.OpcodeRoundTrip.cmpImm : Sys2Proof.Laws.OpcodeRoundTrip.Statement .cmpImm := ⟨rfl, by decide, by decide⟩
theorem Sys2Proof.Laws.OpcodeRoundTrip.cmpAbs : Sys2Proof.Laws.OpcodeRoundTrip.Statement .cmpAbs := ⟨rfl, by decide, by decide⟩
theorem Sys2Proof.Laws.OpcodeRoundTrip.cmpIndY : Sys2Proof.Laws.OpcodeRoundTrip.Statement .cmpIndY := ⟨rfl, by decide, by decide⟩
theorem Sys2Proof.Laws.OpcodeRoundTrip.cmpZpX : Sys2Proof.Laws.OpcodeRoundTrip.Statement .cmpZpX := ⟨rfl, by decide, by decide⟩
theorem Sys2Proof.Laws.OpcodeRoundTrip.cmpAbsY : Sys2Proof.Laws.OpcodeRoundTrip.Statement .cmpAbsY := ⟨rfl, by decide, by decide⟩
theorem Sys2Proof.Laws.OpcodeRoundTrip.cmpAbsX : Sys2Proof.Laws.OpcodeRoundTrip.Statement .cmpAbsX := ⟨rfl, by decide, by decide⟩
theorem Sys2Proof.Laws.OpcodeRoundTrip.cpxImm : Sys2Proof.Laws.OpcodeRoundTrip.Statement .cpxImm := ⟨rfl, by decide, by decide⟩
theorem Sys2Proof.Laws.OpcodeRoundTrip.cpxZp : Sys2Proof.Laws.OpcodeRoundTrip.Statement .cpxZp := ⟨rfl, by decide, by decide⟩
theorem Sys2Proof.Laws.OpcodeRoundTrip.cpxAbs : Sys2Proof.Laws.OpcodeRoundTrip.Statement .cpxAbs := ⟨rfl, by decide, by decide⟩
theorem Sys2Proof.Laws.OpcodeRoundTrip.cpyImm : Sys2Proof.Laws.OpcodeRoundTrip.Statement .cpyImm := ⟨rfl, by decide, by decide⟩
theorem Sys2Proof.Laws.OpcodeRoundTrip.cpyZp : Sys2Proof.Laws.OpcodeRoundTrip.Statement .cpyZp := ⟨rfl, by decide, by decide⟩
theorem Sys2Proof.Laws.OpcodeRoundTrip.cpyAbs : Sys2Proof.Laws.OpcodeRoundTrip.Statement .cpyAbs := ⟨rfl, by decide, by decide⟩
theorem Sys2Proof.Laws.OpcodeRoundTrip.aslZp : Sys2Proof.Laws.OpcodeRoundTrip.Statement .aslZp := ⟨rfl, by decide, by decide⟩
theorem Sys2Proof.Laws.OpcodeRoundTrip.aslAcc : Sys2Proof.Laws.OpcodeRoundTrip.Statement .aslAcc := ⟨rfl, by decide, by decide⟩
theorem Sys2Proof.Laws.OpcodeRoundTrip.aslAbs : Sys2Proof.Laws.OpcodeRoundTrip.Statement .aslAbs := ⟨rfl, by decide, by decide⟩
theorem Sys2Proof.Laws.OpcodeRoundTrip.aslZpX : Sys2Proof.Laws.OpcodeRoundTrip.Statement .aslZpX := ⟨rfl, by decide, by decide⟩
theorem Sys2Proof.Laws.OpcodeRoundTrip.aslAbsX : Sys2Proof.Laws.OpcodeRoundTrip.Statement .aslAbsX := ⟨rfl, by decide, by decide⟩
theorem Sys2Proof.Laws.OpcodeRoundTrip.lsrZp : Sys2Proof.Laws.OpcodeRoundTrip.Statement .lsrZp := ⟨rfl, by decide, by decide⟩
theorem Sys2Proof.Laws.OpcodeRoundTrip.lsrAcc : Sys2Proof.Laws.OpcodeRoundTrip.Statement .lsrAcc := ⟨rfl, by decide, by decide⟩
theorem Sys2Proof.Laws.OpcodeRoundTrip.lsrAbs : Sys2Proof.Laws.OpcodeRoundTrip.Statement .lsrAbs := ⟨rfl, by decide, by decide⟩
theorem Sys2Proof.Laws.OpcodeRoundTrip.lsrZpX : Sys2Proof.Laws.OpcodeRoundTrip.Statement .lsrZpX := ⟨rfl, by decide, by decide⟩
theorem Sys2Proof.Laws.OpcodeRoundTrip.lsrAbsX : Sys2Proof.Laws.OpcodeRoundTrip.Statement .lsrAbsX := ⟨rfl, by decide, by decide⟩
theorem Sys2Proof.Laws.OpcodeRoundTrip.rolZp : Sys2Proof.Laws.OpcodeRoundTrip.Statement .rolZp := ⟨rfl, by decide, by decide⟩
theorem Sys2Proof.Laws.OpcodeRoundTrip.rolAcc : Sys2Proof.Laws.OpcodeRoundTrip.Statement .rolAcc := ⟨rfl, by decide, by decide⟩
theorem Sys2Proof.Laws.OpcodeRoundTrip.rolAbs : Sys2Proof.Laws.OpcodeRoundTrip.Statement .rolAbs := ⟨rfl, by decide, by decide⟩
theorem Sys2Proof.Laws.OpcodeRoundTrip.rolZpX : Sys2Proof.Laws.OpcodeRoundTrip.Statement .rolZpX := ⟨rfl, by decide, by decide⟩
theorem Sys2Proof.Laws.OpcodeRoundTrip.rolAbsX : Sys2Proof.Laws.OpcodeRoundTrip.Statement .rolAbsX := ⟨rfl, by decide, by decide⟩
theorem Sys2Proof.Laws.OpcodeRoundTrip.rorZp : Sys2Proof.Laws.OpcodeRoundTrip.Statement .rorZp := ⟨rfl, by decide, by decide⟩
theorem Sys2Proof.Laws.OpcodeRoundTrip.rorAcc : Sys2Proof.Laws.OpcodeRoundTrip.Statement .rorAcc := ⟨rfl, by decide, by decide⟩
theorem Sys2Proof.Laws.OpcodeRoundTrip.rorAbs : Sys2Proof.Laws.OpcodeRoundTrip.Statement .rorAbs := ⟨rfl, by decide, by decide⟩
theorem Sys2Proof.Laws.OpcodeRoundTrip.rorZpX : Sys2Proof.Laws.OpcodeRoundTrip.Statement .rorZpX := ⟨rfl, by decide, by decide⟩
theorem Sys2Proof.Laws.OpcodeRoundTrip.rorAbsX : Sys2Proof.Laws.OpcodeRoundTrip.Statement .rorAbsX := ⟨rfl, by decide, by decide⟩
theorem Sys2Proof.Laws.OpcodeRoundTrip.incZp : Sys2Proof.Laws.OpcodeRoundTrip.Statement .incZp := ⟨rfl, by decide, by decide⟩
theorem Sys2Proof.Laws.OpcodeRoundTrip.incAbs : Sys2Proof.Laws.OpcodeRoundTrip.Statement .incAbs := ⟨rfl, by decide, by decide⟩
theorem Sys2Proof.Laws.OpcodeRoundTrip.incZpX : Sys2Proof.Laws.OpcodeRoundTrip.Statement .incZpX := ⟨rfl, by decide, by decide⟩
theorem Sys2Proof.Laws.OpcodeRoundTrip.incAbsX : Sys2Proof.Laws.OpcodeRoundTrip.Statement .incAbsX := ⟨rfl, by decide, by decide⟩
theorem Sys2Proof.Laws.OpcodeRoundTrip.decZp : Sys2Proof.Laws.OpcodeRoundTrip.Statement .decZp := ⟨rfl, by decide, by decide⟩
theorem Sys2Proof.Laws.OpcodeRoundTrip.decAbs : Sys2Proof.Laws.OpcodeRoundTrip.Statement .decAbs := ⟨rfl, by decide, by decide⟩
theorem Sys2Proof.Laws.OpcodeRoundTrip.decZpX : Sys2Proof.Laws.OpcodeRoundTrip.Statement .decZpX := ⟨rfl, by decide, by decide⟩
theorem Sys2Proof.Laws.OpcodeRoundTrip.decAbsX : Sys2Proof.Laws.OpcodeRoundTrip.Statement .decAbsX := ⟨rfl, by decide, by decide⟩
theorem Sys2Proof.Laws.OpcodeRoundTrip.inx : Sys2Proof.Laws.OpcodeRoundTrip.Statement .inx := ⟨rfl, by decide, by decide⟩
theorem Sys2Proof.Laws.OpcodeRoundTrip.iny : Sys2Proof.Laws.OpcodeRoundTrip.Statement .iny := ⟨rfl, by decide, by decide⟩
theorem Sys2Proof.Laws.OpcodeRoundTrip.dex : Sys2Proof.Laws.OpcodeRoundTrip.Statement .dex := ⟨rfl, by decide, by decide⟩
theorem Sys2Proof.Laws.OpcodeRoundTrip.dey : Sys2Proof.Laws.OpcodeRoundTrip.Statement .dey := ⟨rfl, by decide, by decide⟩
theorem Sys2Proof.Laws.OpcodeRoundTrip.pha : Sys2Proof.Laws.OpcodeRoundTrip.Statement .pha := ⟨rfl, by decide, by decide⟩
theorem Sys2Proof.Laws.OpcodeRoundTrip.php : Sys2Proof.Laws.OpcodeRoundTrip.Statement .php := ⟨rfl, by decide, by decide⟩
theorem Sys2Proof.Laws.OpcodeRoundTrip.pla : Sys2Proof.Laws.OpcodeRoundTrip.Statement .pla := ⟨rfl, by decide, by decide⟩
theorem Sys2Proof.Laws.OpcodeRoundTrip.plp : Sys2Proof.Laws.OpcodeRoundTrip.Statement .plp := ⟨rfl, by decide, by decide⟩
theorem Sys2Proof.Laws.OpcodeRoundTrip.bcc : Sys2Proof.Laws.OpcodeRoundTrip.Statement .bcc := ⟨rfl, by decide, by decide⟩
theorem Sys2Proof.Laws.OpcodeRoundTrip.bcs : Sys2Proof.Laws.OpcodeRoundTrip.Statement .bcs := ⟨rfl, by decide, by decide⟩
theorem Sys2Proof.Laws.OpcodeRoundTrip.beq : Sys2Proof.Laws.OpcodeRoundTrip.Statement .beq := ⟨rfl, by decide, by decide⟩
theorem Sys2Proof.Laws.OpcodeRoundTrip.bne : Sys2Proof.Laws.OpcodeRoundTrip.Statement .bne := ⟨rfl, by decide, by decide⟩
theorem Sys2Proof.Laws.OpcodeRoundTrip.bmi : Sys2Proof.Laws.OpcodeRoundTrip.Statement .bmi := ⟨rfl, by decide, by decide⟩
theorem Sys2Proof.Laws.OpcodeRoundTrip.bpl : Sys2Proof.Laws.OpcodeRoundTrip.Statement .bpl := ⟨rfl, by decide, by decide⟩
theorem Sys2Proof.Laws.OpcodeRoundTrip.bvc : Sys2Proof.Laws.OpcodeRoundTrip.Statement .bvc := ⟨rfl, by decide, by decide⟩
theorem Sys2Proof.Laws.OpcodeRoundTrip.bvs : Sys2Proof.Laws.OpcodeRoundTrip.Statement .bvs := ⟨rfl, by decide, by decide⟩
theorem Sys2Proof.Laws.OpcodeRoundTrip.jmpAbs : Sys2Proof.Laws.OpcodeRoundTrip.Statement .jmpAbs := ⟨rfl, by decide, by decide⟩
theorem Sys2Proof.Laws.OpcodeRoundTrip.jmpInd : Sys2Proof.Laws.OpcodeRoundTrip.Statement .jmpInd := ⟨rfl, by decide, by decide⟩
theorem Sys2Proof.Laws.OpcodeRoundTrip.jsr : Sys2Proof.Laws.OpcodeRoundTrip.Statement .jsr := ⟨rfl, by decide, by decide⟩
theorem Sys2Proof.Laws.OpcodeRoundTrip.rts : Sys2Proof.Laws.OpcodeRoundTrip.Statement .rts := ⟨rfl, by decide, by decide⟩
theorem Sys2Proof.Laws.OpcodeRoundTrip.rti : Sys2Proof.Laws.OpcodeRoundTrip.Statement .rti := ⟨rfl, by decide, by decide⟩
theorem Sys2Proof.Laws.OpcodeRoundTrip.brk : Sys2Proof.Laws.OpcodeRoundTrip.Statement .brk := ⟨rfl, by decide, by decide⟩
theorem Sys2Proof.Laws.OpcodeRoundTrip.nop : Sys2Proof.Laws.OpcodeRoundTrip.Statement .nop := ⟨rfl, by decide, by decide⟩
theorem Sys2Proof.Laws.OpcodeRoundTrip.clc : Sys2Proof.Laws.OpcodeRoundTrip.Statement .clc := ⟨rfl, by decide, by decide⟩
theorem Sys2Proof.Laws.OpcodeRoundTrip.cld : Sys2Proof.Laws.OpcodeRoundTrip.Statement .cld := ⟨rfl, by decide, by decide⟩
theorem Sys2Proof.Laws.OpcodeRoundTrip.cli : Sys2Proof.Laws.OpcodeRoundTrip.Statement .cli := ⟨rfl, by decide, by decide⟩
theorem Sys2Proof.Laws.OpcodeRoundTrip.clv : Sys2Proof.Laws.OpcodeRoundTrip.Statement .clv := ⟨rfl, by decide, by decide⟩
theorem Sys2Proof.Laws.OpcodeRoundTrip.sec : Sys2Proof.Laws.OpcodeRoundTrip.Statement .sec := ⟨rfl, by decide, by decide⟩
theorem Sys2Proof.Laws.OpcodeRoundTrip.sed : Sys2Proof.Laws.OpcodeRoundTrip.Statement .sed := ⟨rfl, by decide, by decide⟩
theorem Sys2Proof.Laws.OpcodeRoundTrip.sei : Sys2Proof.Laws.OpcodeRoundTrip.Statement .sei := ⟨rfl, by decide, by decide⟩
end

