-- ==== Sys2Proof/Laws/Decode.lean ====
section
/-! SUPPORT. The decoder and the encoder agree: the opcode map of R64 and the encodings of the instruction rules are two
transcriptions of one table. -/

namespace Sys2Proof

/-- The opcode byte of an instruction decodes to it (one lemma for each constructor in Laws/PerInstr.lean). -/
theorem decodeOpcode_opcode (i : Instr) : decodeOpcode i.opcode = some i := by cases i <;> rfl

/-- No two instructions share an opcode byte. -/
theorem opcode_injective {i j : Instr} (h : i.opcode = j.opcode) : i = j := by
  have := decodeOpcode_opcode i
  rw [h, decodeOpcode_opcode j] at this
  exact (Option.some.inj this).symm

/-- Every byte decodes to nothing or to the instruction whose opcode it is. -/
theorem decodeOpcode_eq_some_of_all : ∀ n : Fin 256,
    (decodeOpcode (BitVec.ofNat 8 n)).all (fun i => i.opcode == BitVec.ofNat 8 n) = true := by decide +kernel

/-- A byte that decodes is the opcode byte of what it decodes to. -/
theorem opcode_of_decodeOpcode {b : Byte} {i : Instr} (h : decodeOpcode b = some i) : i.opcode = b := by
  have := decodeOpcode_eq_some_of_all ⟨b.toNat, b.isLt⟩
  simpa [h] using this

/-- Every instruction is one to three bytes long (R61). -/
theorem length_bounds (i : Instr) : 1 ≤ i.length ∧ i.length ≤ 3 := by cases i <;> decide

end Sys2Proof
end

