-- ==== Sys2Proof/Laws/Flags.lean ====
section
/-! SUPPORT. What each flag computation leaves in each flag: the eight flags of every status byte the machine writes. -/

namespace Sys2Proof.Machine

/-- A flag after a write of a flag: the written one holds the value, the others stay (R25). -/
@[simp] theorem getFlag_setFlag (p : Byte) (f g : Flag) (b : Bool) :
    getFlag (setFlag p g b) f = if f = g then b else getFlag p f := by
  cases b <;> cases f <;> cases g <;> simp [getFlag, setFlag, Flag.mask, Flag.bit]

/-- Status bytes with equal flags are equal: P has no other bit (R25). -/
theorem status_ext {p q : Byte} (h : ∀ f, getFlag p f = getFlag q f) : p = q := by
  apply BitVec.eq_of_getLsbD_eq
  intro i hi
  match i, hi with
  | 0, _ => exact h .c
  | 1, _ => exact h .z
  | 2, _ => exact h .i
  | 3, _ => exact h .d
  | 4, _ => exact h .b
  | 5, _ => exact h .u
  | 6, _ => exact h .v
  | 7, _ => exact h .n

/-- UpdateZN writes Z and N and nothing else (R100). -/
theorem getFlag_statusZN (p r : Byte) (f : Flag) :
    getFlag (statusZN p r) f =
      if f = .n then r.msb else if f = .z then decide (r = 0x00#8) else getFlag p f := by
  cases f <;> simp [statusZN]

/-- The flags after AddToA (R130). -/
theorem getFlag_statusAdd (p a m : Byte) (f : Flag) :
    getFlag (statusAdd p a m) f =
      if f = .n then (addResult a m (getFlag p .c)).msb
      else if f = .z then decide (addResult a m (getFlag p .c) = 0x00#8)
      else if f = .v then addOverflow a m (getFlag p .c)
      else if f = .c then addCarry a m (getFlag p .c) else getFlag p f := by
  cases f <;> simp [statusAdd, getFlag_statusZN]

/-- The flags after BIT (R136). -/
theorem getFlag_statusBit (p a m : Byte) (f : Flag) :
    getFlag (statusBit p a m) f =
      if f = .n then m.getLsbD 7 else if f = .v then m.getLsbD 6
      else if f = .z then decide (a &&& m = 0x00#8) else getFlag p f := by
  cases f <;> simp [statusBit]

/-- The flags after Compare (R137). -/
theorem getFlag_statusCompare (p reg m : Byte) (f : Flag) :
    getFlag (statusCompare p reg m) f =
      if f = .n then (reg - m).msb else if f = .z then decide (reg - m = 0x00#8)
      else if f = .c then decide (m.toNat ≤ reg.toNat) else getFlag p f := by
  cases f <;> simp [statusCompare, getFlag_statusZN]

/-- The byte PHP pushes has B and U set, the other flags as P (R177). -/
theorem getFlag_pushedStatus (p : Byte) (f : Flag) :
    getFlag (pushedStatus p) f = if f = .b ∨ f = .u then true else getFlag p f := by
  cases f <;> simp [pushedStatus, getFlag, Flag.bit]

/-- PLP and RTI load every flag but B, forced to 0, and U, forced to 1 (R179). -/
theorem getFlag_pulledStatus (v : Byte) (f : Flag) :
    getFlag (pulledStatus v) f = if f = .b then false else if f = .u then true else getFlag v f := by
  cases f <;> simp [pulledStatus, getFlag, Flag.bit]

/-- `A[7]` of a byte, as BitVec's msb. -/
theorem msb_eq_bit7 (r : Byte) : r.msb = r.getLsbD 7 := by simp [BitVec.msb_eq_getLsbD_last]

/-- SBC's transformed operand is the complement (R132). -/
theorem sbcOperand_eq_not (m : Byte) : sbcOperand m = ~~~m := by
  apply BitVec.eq_of_toNat_eq
  have := m.isLt
  simp [sbcOperand, BitVec.toNat_sub, BitVec.toNat_not]
  omega

end Sys2Proof.Machine
end

