-- ==== Sys2Proof/Laws/Memory.lean ====
section
/-! SUPPORT. The laws of memory: what a read sees after a write, that every operation keeps the canonical form, and that
two canonical memories that read alike are equal data. -/

namespace Sys2Proof.Machine

@[simp] theorem Memory.read_nil (a : Addr) : Memory.read [] a = Config.unlistedByte := rfl

theorem Memory.read_without_same (m : Memory) (a : Addr) :
    Memory.read (Memory.without m a.toNat) a = Config.unlistedByte := by
  induction m with
  | nil => rfl
  | cons c m ih =>
    obtain ⟨k, v⟩ := c
    by_cases h : k = a.toNat <;> simp [Memory.without, Memory.read, h, ih]

theorem Memory.read_without_other (m : Memory) (n : Nat) (b : Addr) (h : b.toNat ≠ n) :
    Memory.read (Memory.without m n) b = Memory.read m b := by
  induction m with
  | nil => rfl
  | cons c m ih =>
    obtain ⟨k, v⟩ := c
    by_cases hk : k = n
    · simp [Memory.without, Memory.read, hk, ih, Ne.symm h]
    · simp [Memory.without, Memory.read, hk, ih]

theorem Memory.read_place_other (m : Memory) (n : Nat) (v : Byte) (b : Addr) (h : b.toNat ≠ n) :
    Memory.read (Memory.place m n v) b = Memory.read m b := by
  induction m with
  | nil => simp [Memory.place, Memory.read, Ne.symm h]
  | cons c m ih =>
    obtain ⟨k, w⟩ := c
    by_cases hk : n < k
    · simp [Memory.place, Memory.read, hk, Ne.symm h]
    · simp [Memory.place, Memory.read, hk, ih]

theorem Memory.read_place_same (m : Memory) (a : Addr) (v : Byte) :
    Memory.read (Memory.place (Memory.without m a.toNat) a.toNat v) a = v := by
  induction m with
  | nil => simp [Memory.without, Memory.place, Memory.read]
  | cons c m ih =>
    obtain ⟨k, w⟩ := c
    by_cases hk : k = a.toNat
    · simp [Memory.without, hk, ih]
    · by_cases hlt : a.toNat < k
      · simp [Memory.without, hk, Memory.place, hlt, Memory.read]
      · simp [Memory.without, hk, Memory.place, hlt, Memory.read, ih]

/-- A read of the written address gives the written byte (R42, R53). -/
@[simp] theorem Memory.read_write_same (m : Memory) (a : Addr) (v : Byte) : (Memory.write m a v).read a = v := by
  unfold Memory.write
  split
  · next h => rw [Memory.read_without_same, h]
  · exact Memory.read_place_same m a v

/-- A write changes nothing but its own byte (R42, R49). -/
theorem Memory.read_write_other (m : Memory) (a b : Addr) (v : Byte) (h : b ≠ a) :
    (Memory.write m a v).read b = Memory.read m b := by
  have hn : b.toNat ≠ a.toNat := fun e => h (BitVec.eq_of_toNat_eq e)
  unfold Memory.write
  split
  · exact Memory.read_without_other m _ b hn
  · rw [Memory.read_place_other _ _ _ b hn, Memory.read_without_other m _ b hn]

/-- Both cases of a read after a write. -/
theorem Memory.read_write (m : Memory) (a b : Addr) (v : Byte) :
    (Memory.write m a v).read b = if b = a then v else Memory.read m b := by
  split
  · next h => rw [h, Memory.read_write_same]
  · next h => exact Memory.read_write_other m a b v h

theorem Memory.wfFrom_cons {lo k : Nat} {v : Byte} {m : Memory} :
    Memory.wfFrom lo ((k, v) :: m) = true ↔
      lo ≤ k ∧ k < 65536 ∧ v ≠ Config.unlistedByte ∧ Memory.wfFrom (k + 1) m = true := by
  simp [Memory.wfFrom, and_assoc]

theorem Memory.wfFrom_mono {lo lo' : Nat} {m : Memory} (h : Memory.wfFrom lo m = true) (hl : lo' ≤ lo) :
    Memory.wfFrom lo' m = true := by
  cases m with
  | nil => rfl
  | cons c m =>
    obtain ⟨k, v⟩ := c
    rw [Memory.wfFrom_cons] at h ⊢
    exact ⟨by omega, h.2⟩

theorem Memory.wfFrom_without {lo : Nat} {m : Memory} (n : Nat) (h : Memory.wfFrom lo m = true) :
    Memory.wfFrom lo (Memory.without m n) = true := by
  induction m generalizing lo with
  | nil => rfl
  | cons c m ih =>
    obtain ⟨k, v⟩ := c
    rw [Memory.wfFrom_cons] at h
    by_cases hk : k = n
    · simpa [Memory.without, hk] using Memory.wfFrom_mono (ih h.2.2.2) (by omega)
    · simpa [Memory.without, hk, Memory.wfFrom_cons] using ⟨h.1, h.2.1, h.2.2.1, ih h.2.2.2⟩

theorem Memory.wfFrom_place {lo : Nat} {m : Memory} {n : Nat} {v : Byte} (hn : n < 65536) (hlo : lo ≤ n)
    (hv : v ≠ Config.unlistedByte) (h : Memory.wfFrom lo (Memory.without m n) = true) :
    Memory.wfFrom lo (Memory.place (Memory.without m n) n v) = true := by
  induction m generalizing lo with
  | nil => simp [Memory.without, Memory.place, hn, hlo, hv, Memory.wfFrom]
  | cons c m ih =>
    obtain ⟨k, w⟩ := c
    by_cases hk : k = n
    · simp only [Memory.without, hk, if_true] at h ⊢
      exact ih hlo h
    · simp only [Memory.without, hk, if_false] at h ⊢
      rw [Memory.wfFrom_cons] at h
      by_cases hlt : n < k
      · simp only [Memory.place, hlt, if_true, Memory.wfFrom_cons]
        exact ⟨hlo, hn, hv, by omega, h.2.1, h.2.2.1, h.2.2.2⟩
      · simp only [Memory.place, hlt, if_false, Memory.wfFrom_cons]
        exact ⟨h.1, h.2.1, h.2.2.1, ih (by omega) h.2.2.2⟩

/-- A write keeps the canonical form. -/
theorem Memory.wf_write {m : Memory} (a : Addr) (v : Byte) (h : Memory.wf m = true) :
    Memory.wf (Memory.write m a v) = true := by
  unfold Memory.write
  split
  · exact Memory.wfFrom_without _ h
  · next hv => exact Memory.wfFrom_place a.isLt (Nat.zero_le _) hv (Memory.wfFrom_without _ h)

theorem Memory.read_below {lo : Nat} {m : Memory} (h : Memory.wfFrom lo m = true) (a : Addr) (ha : a.toNat < lo) :
    Memory.read m a = Config.unlistedByte := by
  induction m generalizing lo with
  | nil => rfl
  | cons c m ih =>
    obtain ⟨k, v⟩ := c
    rw [Memory.wfFrom_cons] at h
    have hk : k ≠ a.toNat := by omega
    simpa [Memory.read, hk] using ih h.2.2.2 (by omega)

theorem Memory.ext_from {lo : Nat} {m n : Memory} (hm : Memory.wfFrom lo m = true) (hn : Memory.wfFrom lo n = true)
    (h : ∀ a, Memory.read m a = Memory.read n a) : m = n := by
  induction m generalizing lo n with
  | nil =>
    cases n with
    | nil => rfl
    | cons c n =>
      obtain ⟨k, v⟩ := c
      rw [Memory.wfFrom_cons] at hn
      have := h (BitVec.ofNat 16 k)
      simp [Memory.read, Nat.mod_eq_of_lt hn.2.1] at this
      exact absurd this.symm hn.2.2.1
  | cons c m ih =>
    obtain ⟨k, v⟩ := c
    rw [Memory.wfFrom_cons] at hm
    have hk : (BitVec.ofNat 16 k).toNat = k := by simp [Nat.mod_eq_of_lt hm.2.1]
    cases n with
    | nil =>
      have := h (BitVec.ofNat 16 k)
      simp only [Memory.read, hk, if_true] at this
      exact absurd this hm.2.2.1
    | cons d n =>
      obtain ⟨l, w⟩ := d
      rw [Memory.wfFrom_cons] at hn
      have hl : (BitVec.ofNat 16 l).toNat = l := by simp [Nat.mod_eq_of_lt hn.2.1]
      have hkl : k = l := by
        rcases Nat.lt_trichotomy k l with hlt | he | hlt
        · have h1 := h (BitVec.ofNat 16 k)
          have h2 := Memory.read_below (m := (l, w) :: n) (lo := l)
            (Memory.wfFrom_cons.2 ⟨Nat.le_refl _, hn.2⟩) (BitVec.ofNat 16 k) (by omega)
          rw [h2] at h1
          simp only [Memory.read, hk, if_true] at h1
          exact absurd h1 hm.2.2.1
        · exact he
        · have h1 := h (BitVec.ofNat 16 l)
          have h2 := Memory.read_below (m := (k, v) :: m) (lo := k)
            (Memory.wfFrom_cons.2 ⟨Nat.le_refl _, hm.2⟩) (BitVec.ofNat 16 l) (by omega)
          rw [h2] at h1
          simp only [Memory.read, hl, if_true] at h1
          exact absurd h1.symm hn.2.2.1
      subst hkl
      have hv : v = w := by
        have h1 := h (BitVec.ofNat 16 k)
        simpa only [Memory.read, hk, if_true] using h1
      subst hv
      have hmn : m = n := by
        refine ih hm.2.2.2 hn.2.2.2 fun a => ?_
        by_cases ha : k = a.toNat
        · rw [Memory.read_below hm.2.2.2 a (by omega), Memory.read_below hn.2.2.2 a (by omega)]
        · simpa [Memory.read, ha] using h a
      rw [hmn]

/-- Canonical memories that read alike at every address are equal data. -/
theorem Memory.ext_of_wf {m n : Memory} (hm : Memory.wf m = true) (hn : Memory.wf n = true)
    (h : ∀ a, Memory.read m a = Memory.read n a) : m = n := Memory.ext_from hm hn h

end Sys2Proof.Machine
end

