-- ==== Sys2Proof/Laws/State.lean ====
section
/-! SUPPORT. One lemma for each field of State and each named update, true by rfl. -/

namespace Sys2Proof.Machine

@[simp] theorem State.logged_a (s : State) (e : Access) : (s.logged e).a = s.a := rfl
@[simp] theorem State.logged_x (s : State) (e : Access) : (s.logged e).x = s.x := rfl
@[simp] theorem State.logged_y (s : State) (e : Access) : (s.logged e).y = s.y := rfl
@[simp] theorem State.logged_p (s : State) (e : Access) : (s.logged e).p = s.p := rfl
@[simp] theorem State.logged_sp (s : State) (e : Access) : (s.logged e).sp = s.sp := rfl
@[simp] theorem State.logged_pc (s : State) (e : Access) : (s.logged e).pc = s.pc := rfl
@[simp] theorem State.logged_run (s : State) (e : Access) : (s.logged e).run = s.run := rfl
@[simp] theorem State.logged_mem (s : State) (e : Access) : (s.logged e).mem = s.mem := rfl
@[simp] theorem State.logged_port (s : State) (e : Access) : (s.logged e).port = s.port ++ [e] := rfl

@[simp] theorem State.updateZN_a (s : State) (r : Byte) : (s.updateZN r).a = s.a := rfl
@[simp] theorem State.updateZN_x (s : State) (r : Byte) : (s.updateZN r).x = s.x := rfl
@[simp] theorem State.updateZN_y (s : State) (r : Byte) : (s.updateZN r).y = s.y := rfl
@[simp] theorem State.updateZN_p (s : State) (r : Byte) : (s.updateZN r).p = statusZN s.p r := rfl
@[simp] theorem State.updateZN_sp (s : State) (r : Byte) : (s.updateZN r).sp = s.sp := rfl
@[simp] theorem State.updateZN_pc (s : State) (r : Byte) : (s.updateZN r).pc = s.pc := rfl
@[simp] theorem State.updateZN_run (s : State) (r : Byte) : (s.updateZN r).run = s.run := rfl
@[simp] theorem State.updateZN_mem (s : State) (r : Byte) : (s.updateZN r).mem = s.mem := rfl
@[simp] theorem State.updateZN_port (s : State) (r : Byte) : (s.updateZN r).port = s.port := rfl

@[simp] theorem State.writeFlag_a (s : State) (f : Flag) (b : Bool) : (s.writeFlag f b).a = s.a := rfl
@[simp] theorem State.writeFlag_x (s : State) (f : Flag) (b : Bool) : (s.writeFlag f b).x = s.x := rfl
@[simp] theorem State.writeFlag_y (s : State) (f : Flag) (b : Bool) : (s.writeFlag f b).y = s.y := rfl
@[simp] theorem State.writeFlag_p (s : State) (f : Flag) (b : Bool) : (s.writeFlag f b).p = setFlag s.p f b := rfl
@[simp] theorem State.writeFlag_sp (s : State) (f : Flag) (b : Bool) : (s.writeFlag f b).sp = s.sp := rfl
@[simp] theorem State.writeFlag_pc (s : State) (f : Flag) (b : Bool) : (s.writeFlag f b).pc = s.pc := rfl
@[simp] theorem State.writeFlag_run (s : State) (f : Flag) (b : Bool) : (s.writeFlag f b).run = s.run := rfl
@[simp] theorem State.writeFlag_mem (s : State) (f : Flag) (b : Bool) : (s.writeFlag f b).mem = s.mem := rfl
@[simp] theorem State.writeFlag_port (s : State) (f : Flag) (b : Bool) : (s.writeFlag f b).port = s.port := rfl

@[simp] theorem State.halt_a (s : State) : (s.halt).a = s.a := rfl
@[simp] theorem State.halt_x (s : State) : (s.halt).x = s.x := rfl
@[simp] theorem State.halt_y (s : State) : (s.halt).y = s.y := rfl
@[simp] theorem State.halt_p (s : State) : (s.halt).p = s.p := rfl
@[simp] theorem State.halt_sp (s : State) : (s.halt).sp = s.sp := rfl
@[simp] theorem State.halt_pc (s : State) : (s.halt).pc = s.pc := rfl
@[simp] theorem State.halt_run (s : State) : (s.halt).run = .halted := rfl
@[simp] theorem State.halt_mem (s : State) : (s.halt).mem = s.mem := rfl
@[simp] theorem State.halt_port (s : State) : (s.halt).port = s.port := rfl

@[simp] theorem State.raised_a (s : State) (i : FatalInfo) : (s.raised i).a = s.a := rfl
@[simp] theorem State.raised_x (s : State) (i : FatalInfo) : (s.raised i).x = s.x := rfl
@[simp] theorem State.raised_y (s : State) (i : FatalInfo) : (s.raised i).y = s.y := rfl
@[simp] theorem State.raised_p (s : State) (i : FatalInfo) : (s.raised i).p = s.p := rfl
@[simp] theorem State.raised_sp (s : State) (i : FatalInfo) : (s.raised i).sp = s.sp := rfl
@[simp] theorem State.raised_pc (s : State) (i : FatalInfo) : (s.raised i).pc = s.pc := rfl
@[simp] theorem State.raised_run (s : State) (i : FatalInfo) : (s.raised i).run = .fatal i := rfl
@[simp] theorem State.raised_mem (s : State) (i : FatalInfo) : (s.raised i).mem = s.mem := rfl
@[simp] theorem State.raised_port (s : State) (i : FatalInfo) : (s.raised i).port = s.port := rfl

@[simp] theorem State.memRead_snd_a (bus : Bus) (s : State) (ad : Addr) : ((s.memRead bus ad).2).a = s.a := rfl
@[simp] theorem State.memRead_snd_x (bus : Bus) (s : State) (ad : Addr) : ((s.memRead bus ad).2).x = s.x := rfl
@[simp] theorem State.memRead_snd_y (bus : Bus) (s : State) (ad : Addr) : ((s.memRead bus ad).2).y = s.y := rfl
@[simp] theorem State.memRead_snd_p (bus : Bus) (s : State) (ad : Addr) : ((s.memRead bus ad).2).p = s.p := rfl
@[simp] theorem State.memRead_snd_sp (bus : Bus) (s : State) (ad : Addr) : ((s.memRead bus ad).2).sp = s.sp := rfl
@[simp] theorem State.memRead_snd_pc (bus : Bus) (s : State) (ad : Addr) : ((s.memRead bus ad).2).pc = s.pc := rfl
@[simp] theorem State.memRead_snd_run (bus : Bus) (s : State) (ad : Addr) : ((s.memRead bus ad).2).run = s.run := rfl
@[simp] theorem State.memRead_snd_mem (bus : Bus) (s : State) (ad : Addr) : ((s.memRead bus ad).2).mem = (bus.read s.mem ad).2 := rfl
@[simp] theorem State.memRead_snd_port (bus : Bus) (s : State) (ad : Addr) : ((s.memRead bus ad).2).port = s.port ++ [.read ad (bus.read s.mem ad).1] := rfl

@[simp] theorem State.memWrite_a (bus : Bus) (s : State) (ad : Addr) (v : Byte) : (s.memWrite bus ad v).a = s.a := rfl
@[simp] theorem State.memWrite_x (bus : Bus) (s : State) (ad : Addr) (v : Byte) : (s.memWrite bus ad v).x = s.x := rfl
@[simp] theorem State.memWrite_y (bus : Bus) (s : State) (ad : Addr) (v : Byte) : (s.memWrite bus ad v).y = s.y := rfl
@[simp] theorem State.memWrite_p (bus : Bus) (s : State) (ad : Addr) (v : Byte) : (s.memWrite bus ad v).p = s.p := rfl
@[simp] theorem State.memWrite_sp (bus : Bus) (s : State) (ad : Addr) (v : Byte) : (s.memWrite bus ad v).sp = s.sp := rfl
@[simp] theorem State.memWrite_pc (bus : Bus) (s : State) (ad : Addr) (v : Byte) : (s.memWrite bus ad v).pc = s.pc := rfl
@[simp] theorem State.memWrite_run (bus : Bus) (s : State) (ad : Addr) (v : Byte) : (s.memWrite bus ad v).run = s.run := rfl
@[simp] theorem State.memWrite_mem (bus : Bus) (s : State) (ad : Addr) (v : Byte) : (s.memWrite bus ad v).mem = bus.write s.mem ad v := rfl
@[simp] theorem State.memWrite_port (bus : Bus) (s : State) (ad : Addr) (v : Byte) : (s.memWrite bus ad v).port = s.port ++ [.write ad v] := rfl

@[simp] theorem State.push_a (bus : Bus) (s : State) (v : Byte) : (s.push bus v).a = s.a := rfl
@[simp] theorem State.push_x (bus : Bus) (s : State) (v : Byte) : (s.push bus v).x = s.x := rfl
@[simp] theorem State.push_y (bus : Bus) (s : State) (v : Byte) : (s.push bus v).y = s.y := rfl
@[simp] theorem State.push_p (bus : Bus) (s : State) (v : Byte) : (s.push bus v).p = s.p := rfl
@[simp] theorem State.push_sp (bus : Bus) (s : State) (v : Byte) : (s.push bus v).sp = s.sp - 1 := rfl
@[simp] theorem State.push_pc (bus : Bus) (s : State) (v : Byte) : (s.push bus v).pc = s.pc := rfl
@[simp] theorem State.push_run (bus : Bus) (s : State) (v : Byte) : (s.push bus v).run = s.run := rfl
@[simp] theorem State.push_mem (bus : Bus) (s : State) (v : Byte) : (s.push bus v).mem = bus.write s.mem (stackAddr s.sp) v := rfl
@[simp] theorem State.push_port (bus : Bus) (s : State) (v : Byte) : (s.push bus v).port = s.port ++ [.write (stackAddr s.sp) v] := rfl

@[simp] theorem State.pop_snd_a (bus : Bus) (s : State) : ((s.pop bus).2).a = s.a := rfl
@[simp] theorem State.pop_snd_x (bus : Bus) (s : State) : ((s.pop bus).2).x = s.x := rfl
@[simp] theorem State.pop_snd_y (bus : Bus) (s : State) : ((s.pop bus).2).y = s.y := rfl
@[simp] theorem State.pop_snd_p (bus : Bus) (s : State) : ((s.pop bus).2).p = s.p := rfl
@[simp] theorem State.pop_snd_sp (bus : Bus) (s : State) : ((s.pop bus).2).sp = s.sp + 1 := rfl
@[simp] theorem State.pop_snd_pc (bus : Bus) (s : State) : ((s.pop bus).2).pc = s.pc := rfl
@[simp] theorem State.pop_snd_run (bus : Bus) (s : State) : ((s.pop bus).2).run = s.run := rfl
@[simp] theorem State.pop_snd_mem (bus : Bus) (s : State) : ((s.pop bus).2).mem = (bus.read s.mem (stackAddr (s.sp + 1))).2 := rfl
@[simp] theorem State.pop_snd_port (bus : Bus) (s : State) : ((s.pop bus).2).port = s.port ++ [.read (stackAddr (s.sp + 1)) (bus.read s.mem (stackAddr (s.sp + 1))).1] := rfl

@[simp] theorem State.addToA_a (s : State) (m : Byte) : (s.addToA m).a = addResult s.a m (s.flag .c) := rfl
@[simp] theorem State.addToA_x (s : State) (m : Byte) : (s.addToA m).x = s.x := rfl
@[simp] theorem State.addToA_y (s : State) (m : Byte) : (s.addToA m).y = s.y := rfl
@[simp] theorem State.addToA_p (s : State) (m : Byte) : (s.addToA m).p = statusAdd s.p s.a m := rfl
@[simp] theorem State.addToA_sp (s : State) (m : Byte) : (s.addToA m).sp = s.sp := rfl
@[simp] theorem State.addToA_pc (s : State) (m : Byte) : (s.addToA m).pc = s.pc := rfl
@[simp] theorem State.addToA_run (s : State) (m : Byte) : (s.addToA m).run = s.run := rfl
@[simp] theorem State.addToA_mem (s : State) (m : Byte) : (s.addToA m).mem = s.mem := rfl
@[simp] theorem State.addToA_port (s : State) (m : Byte) : (s.addToA m).port = s.port := rfl

@[simp] theorem State.memRead_fst (bus : Bus) (s : State) (ad : Addr) :
    (s.memRead bus ad).1 = (bus.read s.mem ad).1 := rfl

@[simp] theorem State.pop_fst (bus : Bus) (s : State) :
    (s.pop bus).1 = (bus.read s.mem (stackAddr (s.sp + 1))).1 := rfl

@[simp] theorem Bus.plainRam_read (m : Memory) (ad : Addr) : Bus.plainRam.read m ad = (m.read ad, m) := rfl

@[simp] theorem Bus.plainRam_write (m : Memory) (ad : Addr) (v : Byte) : Bus.plainRam.write m ad v = m.write ad v := rfl

end Sys2Proof.Machine
end

