-- ==== Sys2Proof/Laws/Ops.lean ====
section
/-! SUPPORT. One lemma for each shared operation that says all it can do: the stack engine and the resolver on plain RAM,
and the shapes of an addressed instruction. -/

namespace Sys2Proof.Machine

/-- The state with the reads of these addresses on record, each with the byte that memory holds. -/
def State.sawReads (s : State) (l : List Addr) : State :=
  { s with port := s.port ++ l.map fun a => Access.read a (s.mem.read a) }

/-- MemRead on plain RAM. -/
theorem State.memRead_plainRam (s : State) (ad : Addr) :
    s.memRead .plainRam ad = (s.mem.read ad, s.sawReads [ad]) := rfl

/-- A pair of reads on plain RAM. -/
theorem State.memReadPair_plainRam (s : State) (lo hi : Addr) :
    s.memReadPair .plainRam lo hi = (joinBytes (s.mem.read hi) (s.mem.read lo), s.sawReads [lo, hi]) := by
  simp [State.memReadPair, State.memRead, State.logged, State.sawReads]

/-- MemWrite on plain RAM. -/
theorem State.memWrite_plainRam (s : State) (ad : Addr) (v : Byte) :
    s.memWrite .plainRam ad v = { s with mem := s.mem.write ad v, port := s.port ++ [.write ad v] } := rfl

/-- Push on plain RAM (R171). -/
theorem State.push_plainRam (s : State) (v : Byte) :
    s.push .plainRam v =
      { s with sp := s.sp - 1, mem := s.mem.write (stackAddr s.sp) v, port := s.port ++ [.write (stackAddr s.sp) v] } :=
  rfl

/-- Pop on plain RAM (R172). -/
theorem State.pop_plainRam (s : State) :
    s.pop .plainRam =
      (s.mem.read (stackAddr (s.sp + 1)), State.sawReads { s with sp := s.sp + 1 } [stackAddr (s.sp + 1)]) := rfl

/-- `MemRead(addr, 2)` on plain RAM (R44). -/
theorem State.memRead16_plainRam (s : State) (ad : Addr) :
    s.memRead16 .plainRam ad = (joinBytes (s.mem.read (ad + 1)) (s.mem.read ad), s.sawReads [ad, ad + 1]) :=
  State.memReadPair_plainRam s ad (ad + 1)

/-- Push16 on plain RAM: the high byte first (R173). -/
theorem State.push16_plainRam (s : State) (w : Addr) :
    s.push16 .plainRam w =
      { s with
        sp := s.sp - 1 - 1
        mem := (s.mem.write (stackAddr s.sp) (highByte w)).write (stackAddr (s.sp - 1)) (lowByte w)
        port := s.port ++ [.write (stackAddr s.sp) (highByte w), .write (stackAddr (s.sp - 1)) (lowByte w)] } := by
  simp [State.push16, State.push_plainRam]

/-- Pop16 on plain RAM: the low byte first (R174). -/
theorem State.pop16_plainRam (s : State) :
    s.pop16 .plainRam =
      (joinBytes (s.mem.read (stackAddr (s.sp + 1 + 1))) (s.mem.read (stackAddr (s.sp + 1))),
        State.sawReads { s with sp := s.sp + 1 + 1 } [stackAddr (s.sp + 1), stackAddr (s.sp + 1 + 1)]) := by
  simp [State.pop16, State.pop_plainRam, State.sawReads]

/-- The address of mode `mode` and the reads that find it, on plain RAM (R89 to R97). -/
def plainEA (mode : AddressingMode) (s : State) : Option (Addr × List Addr) :=
  let p := s.pc
  let b := s.mem.read p
  let w := joinBytes (s.mem.read (p + 1)) b
  let ptr := fun z : Byte => joinBytes (s.mem.read (zext16 (z + 1))) (s.mem.read (zext16 z))
  match mode with
  | .immediate => some (p, [])
  | .zeroPage => some (zext16 b, [p])
  | .zeroPageX => some (zext16 (b + s.x), [p])
  | .zeroPageY => some (zext16 (b + s.y), [p])
  | .absolute => some (w, [p, p + 1])
  | .absoluteX => some (w + zext16 s.x, [p, p + 1])
  | .absoluteY => some (w + zext16 s.y, [p, p + 1])
  | .indirectX => some (ptr (b + s.x), [p, zext16 (b + s.x), zext16 (b + s.x + 1)])
  | .indirectY => some (ptr b + zext16 s.y, [p, zext16 b, zext16 (b + 1)])
  | .noneAddressing => none

/-- The resolver on plain RAM: the address, and only reads on record (R88). -/
theorem resolve_plainRam (mode : AddressingMode) (s : State) :
    resolve .plainRam mode s = (plainEA mode s).map fun e => (e.1, s.sawReads e.2) := by
  cases mode <;>
    simp [resolve, plainEA, eaImmediate, eaZeroPage, eaZeroPageX, eaZeroPageY, eaAbsolute, eaAbsoluteX, eaAbsoluteY,
      eaIndirectX, eaIndirectY, State.readZeroPagePointer, State.memRead16, State.memReadPair, State.memRead,
      State.logged, State.sawReads]

/-- Every mode but NoneAddressing resolves (R88, R98). -/
theorem plainEA_isSome {mode : AddressingMode} (h : mode ≠ .noneAddressing) (s : State) :
    ∃ ea l, plainEA mode s = some (ea, l) := by
  cases mode <;> simp_all [plainEA]

/-- An addressed instruction on plain RAM: its continuation at the effective address, after the resolver's reads. -/
theorem withEA_plainRam {op : Byte} {mode : AddressingMode} {s : State} {ea : Addr} {l : List Addr}
    (h : plainEA mode s = some (ea, l)) (k : Addr → State → Result) :
    withEA .plainRam op mode s k = k ea (s.sawReads l) := by
  simp [withEA, resolve_plainRam, h]

/-- An operand on plain RAM: the byte at the effective address, whose read comes last (R99). -/
theorem withOperand_plainRam {op : Byte} {mode : AddressingMode} {s : State} {ea : Addr} {l : List Addr}
    (h : plainEA mode s = some (ea, l)) (k : Byte → State → Result) :
    withOperand .plainRam op mode s k = k (s.mem.read ea) (s.sawReads (l ++ [ea])) := by
  simp [withOperand, withEA_plainRam h, State.memRead, State.logged, State.sawReads]

/-- A read-modify-write on plain RAM (R160). -/
theorem readModifyWrite_plainRam {op : Byte} {mode : AddressingMode} {s : State} {ea : Addr} {l : List Addr}
    (h : plainEA mode s = some (ea, l)) (f : ShiftFn) :
    readModifyWrite .plainRam op mode f s =
      .next { s with
        p := statusZN (f (s.mem.read ea) s.p).2 (f (s.mem.read ea) s.p).1
        mem := s.mem.write ea (f (s.mem.read ea) s.p).1
        port := (s.sawReads (l ++ [ea])).port ++ [.write ea (f (s.mem.read ea) s.p).1] } := by
  simp [readModifyWrite, withEA_plainRam h, State.memRead, State.memWrite, State.logged, State.sawReads, State.updateZN]

/-- A store on plain RAM (R99): one write, no read of the target. -/
theorem store_plainRam {op : Byte} {mode : AddressingMode} {s : State} {ea : Addr} {l : List Addr}
    (h : plainEA mode s = some (ea, l)) (v : State → Byte) :
    store .plainRam op mode v s = .next ((s.sawReads l).memWrite .plainRam ea (v (s.sawReads l))) := by
  simp [store, withEA_plainRam h]

/-- The resolver on any bus touches only memory, through the bus's reads, and the record (R88). -/
theorem resolve_frame {bus : Bus} {mode : AddressingMode} {s t : State} {ea : Addr}
    (h : resolve bus mode s = some (ea, t)) : t = { s with mem := t.mem, port := t.port } := by
  cases mode <;> simp only [resolve, Option.some.injEq, reduceCtorEq] at h <;>
    (have h2 := congrArg Prod.snd h; dsimp only at h2; subst h2; rfl)

end Sys2Proof.Machine
end

