-- ==== Sys2Proof/Laws/Execute.lean ====
section
/-! SUPPORT. The dispatch by opcode is `Execute(d.mnemonic, d.mode)` of R80 on plain RAM, which rows carry the tag
NoneAddressing, and the shapes of an addressed instruction on any bus. Statements about a mnemonic reach `exec` through
these. -/

namespace Sys2Proof.Machine

/-- Each arm of `exec` is the handler of its row's mnemonic and form, on plain RAM (R80, R83). -/
theorem exec_eq_execute (i : Instr) (s : State) : exec i s = execute .plainRam i s := by
  cases i <;> rfl

/-- The mnemonics whose handlers address memory through the resolver in every form. -/
def addressedMnemonics : List Mnemonic :=
  [.lda, .ldx, .ldy, .sta, .stx, .sty, .adc, .sbc, .and, .ora, .eor, .bit, .cmp, .cpx, .cpy, .inc, .dec]

/-- No row of an addressed mnemonic carries NoneAddressing (R98: a mis-wired opcode would). -/
theorem addressed_mode {i : Instr} (h : i.mnemonic ∈ addressedMnemonics) : i.mode ≠ .noneAddressing := by
  revert h; cases i <;> decide

/-- A shift or rotate that is not of the accumulator has an address (R98, R101). -/
theorem shift_mode {i : Instr} (h : i.mnemonic ∈ [Mnemonic.asl, .lsr, .rol, .ror]) (hf : i.form ≠ .accumulator) :
    i.mode ≠ .noneAddressing := by
  revert h hf; cases i <;> decide

/-- The execute phase of an instruction whose mnemonic is known. -/
theorem execute_of_mnemonic {i : Instr} {m : Mnemonic} (h : i.mnemonic = m) (bus : Bus) (s : State) :
    execute bus i s = executeForm bus i.opcode m i.form s := by
  rw [execute, h]

/-- Every mode but NoneAddressing resolves, on any bus (R88, R98). -/
theorem resolve_isSome {mode : AddressingMode} (h : mode ≠ .noneAddressing) (bus : Bus) (s : State) :
    ∃ ea t, resolve bus mode s = some (ea, t) := by
  cases mode <;> first | exact ⟨_, _, rfl⟩ | exact absurd rfl h

/-- An addressed instruction on any bus: its continuation, after the resolver. -/
theorem withEA_of_resolve {op : Byte} {bus : Bus} {mode : AddressingMode} {s t : State} {ea : Addr}
    (h : resolve bus mode s = some (ea, t)) (k : Addr → State → Result) : withEA bus op mode s k = k ea t := by
  simp [withEA, h]

theorem withOperand_of_resolve {op : Byte} {bus : Bus} {mode : AddressingMode} {s t : State} {ea : Addr}
    (h : resolve bus mode s = some (ea, t)) (k : Byte → State → Result) :
    withOperand bus op mode s k = k (t.memRead bus ea).1 (t.memRead bus ea).2 := by
  simp [withOperand, withEA, h]

theorem store_of_resolve {op : Byte} {bus : Bus} {mode : AddressingMode} {s t : State} {ea : Addr}
    (h : resolve bus mode s = some (ea, t)) (v : State → Byte) :
    store bus op mode v s = .next (t.memWrite bus ea (v t)) := by
  simp [store, withEA, h]

theorem readModifyWrite_of_resolve {op : Byte} {bus : Bus} {mode : AddressingMode} {s t : State} {ea : Addr}
    (h : resolve bus mode s = some (ea, t)) (f : ShiftFn) :
    readModifyWrite bus op mode f s =
      .next (State.updateZN (State.memWrite bus ea (f (t.memRead bus ea).1 t.p).1
        { (t.memRead bus ea).2 with p := (f (t.memRead bus ea).1 t.p).2 }) (f (t.memRead bus ea).1 t.p).1) := by
  simp [readModifyWrite, withEA, h]

end Sys2Proof.Machine
end

