-- ==== Sys2Proof/Laws/Step.lean ====
section
/-! SUPPORT. Once and for all, what a step can do: the four values of Run, and for a running core the two outcomes of
decode. Later proofs cite these and do not unfold the step. -/

namespace Sys2Proof.Machine

/-- The fetch on plain RAM: the byte at PC, and the state execute starts from (R81). -/
theorem fetch_plainRam (s : State) : s.fetch .plainRam = (s.mem.read s.pc, s.fetched) := rfl

@[simp] theorem observe_identity (bus : Bus) (s : State) : s.observe bus identityObserver = s := rfl

/-- A core that is not running takes no step (R30). -/
theorem step_poweredUp {s : State} (h : s.run = .poweredUp) : step s = .refused .stepBeforeReset := by
  simp [step, stepWith, h]

theorem step_halted {s : State} (h : s.run = .halted) : step s = .fault .halted := by
  simp [step, stepWith, h]

theorem step_fatal {s : State} {info : FatalInfo} (h : s.run = .fatal info) :
    step s = .fault (.alreadyFatal info) := by
  simp [step, stepWith, h]

/-- The phases after execute on the default bus and observer (R80, R84). -/
def State.completed (length : Nat) (pcAfterFetch : Addr) (t : State) : State :=
  if t.run = .halted then t else t.advance length pcAfterFetch

theorem complete_identity (bus : Bus) (n : Nat) (q : Addr) (t : State) :
    t.complete bus identityObserver n q = t.completed n q := by
  simp [State.complete, State.completed]

/-- A running core whose byte at PC is undefined (R82, R230). -/
theorem step_undefined {s : State} (h : s.run = .running) (hd : decodeOpcode (s.mem.read s.pc) = none) :
    step s = raiseFatal (.unknownOpcode (s.mem.read s.pc) s.pc) s.fetched := by
  simp [step, stepWith, h, runInstruction, fetch_plainRam, hd]

/-- A running core whose byte at PC is an opcode (R80). -/
theorem step_defined {s : State} {i : Instr} (h : s.run = .running) (hd : decodeOpcode (s.mem.read s.pc) = some i) :
    step s =
      match exec i s.fetched with
      | .next t => .next (t.completed i.length (s.pc + 1))
      | .fault r => .fault r
      | .refused r => .refused r := by
  simp only [step, stepWith, h, runInstruction, fetch_plainRam, hd, complete_identity]
  rfl

/-- Inversion: a step that answers a next state ran the instruction at PC (R80). -/
theorem step_next_inv {s t : State} (h : step s = .next t) :
    s.run = .running ∧ ∃ i u, decodeOpcode (s.mem.read s.pc) = some i ∧ exec i s.fetched = .next u ∧
      t = u.completed i.length (s.pc + 1) := by
  cases hr : s.run with
  | poweredUp => simp [step_poweredUp hr] at h
  | halted => simp [step_halted hr] at h
  | fatal info => simp [step_fatal hr] at h
  | running =>
    refine ⟨rfl, ?_⟩
    cases hd : decodeOpcode (s.mem.read s.pc) with
    | none => simp [step_undefined hr hd, raiseFatal] at h
    | some i =>
      rw [step_defined hr hd] at h
      cases he : exec i s.fetched with
      | next u =>
        rw [he] at h
        exact ⟨i, u, rfl, he, (Host.Outcome.next.inj h).symm⟩
      | fault r => simp [he] at h
      | refused r => simp [he] at h

/-- Loading bytes keeps memory canonical. -/
theorem wf_loadBytes {m : Memory} (base : Addr) (bytes : List Byte) (h : m.wf = true) :
    (loadBytes .plainRam base bytes m).wf = true := by
  induction bytes generalizing base m with
  | nil => exact h
  | cons b bs ih => exact ih _ (Memory.wf_write _ _ h)

/-- The advance writes PC and nothing else (R84). -/
theorem advance_frame (n : Nat) (q : Addr) (t : State) : t.advance n q = { t with pc := (t.advance n q).pc } := by
  unfold State.advance; split <;> rfl

theorem completed_frame (n : Nat) (q : Addr) (t : State) : t.completed n q = { t with pc := (t.completed n q).pc } := by
  unfold State.completed; split
  · rfl
  · exact advance_frame n q t

end Sys2Proof.Machine
end

