-- ==== Sys2Proof/Tests/Slice0.lean ====
section
/-! SUPPORT. Small tests. Expected results come from the spec: the Encodings lines of its instruction rules, the L2 vectors
and access sequences of 95_test_vectors.md (the theorem is named after the vector), and the rules named. At the end, one
witness for each obligation that has hypotheses. -/

namespace Sys2Proof.Tests

open Sys2Proof Sys2Proof.Machine

/-! ### Well-formedness: an instruction with too few or too many operand bytes is refused (R61) -/

theorem test_wellFormed_short : MachineCode.wellFormed ⟨.ldaAbs, [0x34]⟩ = false := by decide
theorem test_wellFormed_none : MachineCode.wellFormed ⟨.bne, []⟩ = false := by decide
theorem test_wellFormed_long : MachineCode.wellFormed ⟨.inx, [0x00]⟩ = false := by decide
theorem test_wellFormed_ok : MachineCode.wellFormed ⟨.jmpInd, [0xFF, 0x30]⟩ = true := by decide

/-! ### Decoding: the Encodings lines of the instruction rules -/

/-- Each opcode byte, followed by the bytes 34 12 and 56, decodes to the instruction with `length - 1` operand bytes. -/
def decodesAs (length : Nat) (rows : List (Byte × Instr)) : Bool :=
  rows.all fun r =>
    match decode [r.1, 0x34, 0x12, 0x56] with
    | .ok (c, rest) =>
      decide (c = ⟨r.2, [0x34, 0x12].take (length - 1)⟩) && decide (rest = [0x34, 0x12, 0x56].drop (length - 1))
    | .error _ => false

theorem test_decode_loadstoretransfer_length1 : decodesAs 1 [
    (0xAA, .tax), (0xA8, .tay), (0x8A, .txa), (0x98, .tya), (0xBA, .tsx), (0x9A, .txs)] = true := by decide

theorem test_decode_loadstoretransfer_length2 : decodesAs 2 [
    (0xA9, .ldaImm), (0xA5, .ldaZp), (0xB5, .ldaZpX), (0xA1, .ldaIndX), (0xB1, .ldaIndY), (0xA2, .ldxImm),
    (0xA6, .ldxZp), (0xB6, .ldxZpY), (0xA0, .ldyImm), (0xA4, .ldyZp), (0xB4, .ldyZpX), (0x85, .staZp),
    (0x95, .staZpX), (0x81, .staIndX), (0x91, .staIndY), (0x86, .stxZp), (0x96, .stxZpY), (0x84, .styZp),
    (0x94, .styZpX)] = true := by decide

theorem test_decode_loadstoretransfer_length3 : decodesAs 3 [
    (0xAD, .ldaAbs), (0xBD, .ldaAbsX), (0xB9, .ldaAbsY), (0xAE, .ldxAbs), (0xBE, .ldxAbsY), (0xAC, .ldyAbs),
    (0xBC, .ldyAbsX), (0x8D, .staAbs), (0x9D, .staAbsX), (0x99, .staAbsY), (0x8E, .stxAbs), (0x8C, .styAbs)] = true := by decide

theorem test_decode_arithmeticlogic_length2 : decodesAs 2 [
    (0x69, .adcImm), (0x65, .adcZp), (0x75, .adcZpX), (0x61, .adcIndX), (0x71, .adcIndY), (0xE9, .sbcImm),
    (0xE5, .sbcZp), (0xF5, .sbcZpX), (0xE1, .sbcIndX), (0xF1, .sbcIndY), (0x29, .andImm), (0x25, .andZp),
    (0x35, .andZpX), (0x21, .andIndX), (0x31, .andIndY), (0x09, .oraImm), (0x05, .oraZp), (0x15, .oraZpX),
    (0x01, .oraIndX), (0x11, .oraIndY), (0x49, .eorImm), (0x45, .eorZp), (0x55, .eorZpX), (0x41, .eorIndX)] = true := by decide

theorem test_decode_arithmeticlogic_length2_b : decodesAs 2 [
    (0x51, .eorIndY), (0x24, .bitZp), (0xC9, .cmpImm), (0xC5, .cmpZp), (0xD5, .cmpZpX), (0xC1, .cmpIndX),
    (0xD1, .cmpIndY), (0xE0, .cpxImm), (0xE4, .cpxZp), (0xC0, .cpyImm), (0xC4, .cpyZp)] = true := by decide

theorem test_decode_arithmeticlogic_length3 : decodesAs 3 [
    (0x6D, .adcAbs), (0x7D, .adcAbsX), (0x79, .adcAbsY), (0xED, .sbcAbs), (0xFD, .sbcAbsX), (0xF9, .sbcAbsY),
    (0x2D, .andAbs), (0x3D, .andAbsX), (0x39, .andAbsY), (0x0D, .oraAbs), (0x1D, .oraAbsX), (0x19, .oraAbsY),
    (0x4D, .eorAbs), (0x5D, .eorAbsX), (0x59, .eorAbsY), (0x2C, .bitAbs), (0xCD, .cmpAbs), (0xDD, .cmpAbsX),
    (0xD9, .cmpAbsY), (0xEC, .cpxAbs), (0xCC, .cpyAbs)] = true := by decide

theorem test_decode_shiftincdec_length1 : decodesAs 1 [
    (0x0A, .aslAcc), (0x4A, .lsrAcc), (0x2A, .rolAcc), (0x6A, .rorAcc), (0xE8, .inx), (0xC8, .iny),
    (0xCA, .dex), (0x88, .dey)] = true := by decide

theorem test_decode_shiftincdec_length2 : decodesAs 2 [
    (0x06, .aslZp), (0x16, .aslZpX), (0x46, .lsrZp), (0x56, .lsrZpX), (0x26, .rolZp), (0x36, .rolZpX),
    (0x66, .rorZp), (0x76, .rorZpX), (0xE6, .incZp), (0xF6, .incZpX), (0xC6, .decZp), (0xD6, .decZpX)] = true := by decide

theorem test_decode_shiftincdec_length3 : decodesAs 3 [
    (0x0E, .aslAbs), (0x1E, .aslAbsX), (0x4E, .lsrAbs), (0x5E, .lsrAbsX), (0x2E, .rolAbs), (0x3E, .rolAbsX),
    (0x6E, .rorAbs), (0x7E, .rorAbsX), (0xEE, .incAbs), (0xFE, .incAbsX), (0xCE, .decAbs), (0xDE, .decAbsX)] = true := by decide

theorem test_decode_stack_length1 : decodesAs 1 [
    (0x48, .pha), (0x08, .php), (0x68, .pla), (0x28, .plp)] = true := by decide

theorem test_decode_control_length1 : decodesAs 1 [
    (0x60, .rts), (0x40, .rti), (0x00, .brk), (0xEA, .nop)] = true := by decide

theorem test_decode_control_length2 : decodesAs 2 [
    (0x90, .bcc), (0xB0, .bcs), (0xF0, .beq), (0xD0, .bne), (0x30, .bmi), (0x10, .bpl),
    (0x50, .bvc), (0x70, .bvs)] = true := by decide

theorem test_decode_control_length3 : decodesAs 3 [
    (0x4C, .jmpAbs), (0x6C, .jmpInd), (0x20, .jsr)] = true := by decide

theorem test_decode_flags_length1 : decodesAs 1 [
    (0x18, .clc), (0xD8, .cld), (0x58, .cli), (0xB8, .clv), (0x38, .sec), (0xF8, .sed),
    (0x78, .sei)] = true := by decide

/-- R65: 0x89 would be an STA immediate; it has no descriptor. -/
theorem test_decode_89 : decodeOpcode 0x89 = none := by decide

/-- An operand cut short does not decode. -/
theorem test_decode_cut : decodeTableWord 8 0xFF = none := by decide

/-- The host's numbering: byte 0 in bits 7 to 0, missing operand bytes zero. -/
theorem test_tableWord_short : decodeTableWord 8 0xAD = some .ldaAbs := by decide
theorem test_tableWord_full : decodeTableWord 24 0x30FF6C = some .jmpInd := by decide

/-! ### One step: the L2 vectors of 95_test_vectors.md -/

/-- The start state of an L2 row: the listed registers and memory cells, and the code at PC. -/
def start (a x y p sp : Byte) (pc : Addr) (cells : List (Addr × Byte)) (code : List Byte) : State :=
  State.withBytes pc code
    { State.reset with
      a := a, x := x, y := y, p := p, sp := sp, pc := pc
      mem := cells.foldl (fun (m : Memory) c => m.write c.1 c.2) [] }

/-- The writes on a port record, in order. -/
def writesOf (l : List Access) : List (Addr × Byte) :=
  l.filterMap fun e =>
    match e with
    | .read _ _ => none
    | .write a v => some (a, v)

/-- A state holds these registers, and memory is that of `s` after these writes, which are those on the port record. -/
def endsAs (s t : State) (a x y p sp : Byte) (pc : Addr) (writes : List (Addr × Byte)) (run : Run) : Bool :=
  decide ((t.a, t.x, t.y, t.p, t.sp, t.pc) = (a, x, y, p, sp, pc)) && decide (t.run = run) &&
    decide (writesOf t.port = writes) && decide (t.mem = writes.foldl (fun (m : Memory) c => m.write c.1 c.2) s.mem)

/-- One step from `s` ends Running with these registers and these memory writes. -/
def stepEnds (s : State) (a x y p sp : Byte) (pc : Addr) (writes : List (Addr × Byte)) : Bool :=
  match step s with
  | .next t => endsAs s t a x y p sp pc writes .running
  | .fault _ => false
  | .refused _ => false

/-- One step from `s` ends Halted with these registers and no write. -/
def stepHalts (s : State) (a x y p sp : Byte) (pc : Addr) : Bool :=
  match step s with
  | .next t => endsAs s t a x y p sp pc [] .halted
  | .fault _ => false
  | .refused _ => false

/-- One step from `s` is the fatal condition of `byte` at `address`, leaving these registers and no write. -/
def stepIsFatal (s : State) (a x y p sp : Byte) (pc : Addr) (byte : Byte) (address : Addr) : Bool :=
  match step s with
  | .next _ => false
  | .fault (.unknownOpcode b ad t) =>
    decide (b = byte) && decide (ad = address) && endsAs s t a x y p sp pc [] (.fatal (.unknownOpcode byte address))
  | .fault (.noAddressing _ _ _ _) => false
  | .fault .halted => false
  | .fault (.alreadyFatal _) => false
  | .refused _ => false

/-- The access sequence of one step. -/
def stepAccesses (s : State) (l : List Access) : Bool :=
  match step s with
  | .next t => decide (t.port = l)
  | .fault _ => false
  | .refused _ => false

theorem test_lda_AM3 :
    stepEnds (start 0x00 0xFF 0x00 0x24 0xFD 0x0600 [(0x007F, 0x11)] [0xB5, 0x80])
    0x11 0xFF 0x00 0x24 0xFD 0x0602 [] = true := by decide

theorem test_ldx_AM4 :
    stepEnds (start 0x00 0x00 0x20 0x24 0xFD 0x0600 [(0x0010, 0x22)] [0xB6, 0xF0])
    0x00 0x22 0x20 0x24 0xFD 0x0602 [] = true := by decide

theorem test_lda_AM5 :
    stepEnds (start 0x00 0x00 0x00 0x24 0xFD 0x0600 [(0x1234, 0x33)] [0xAD, 0x34, 0x12])
    0x33 0x00 0x00 0x24 0xFD 0x0603 [] = true := by decide

theorem test_lda_AM6 :
    stepEnds (start 0x00 0x20 0x00 0x24 0xFD 0x0600 [(0x0010, 0x44)] [0xBD, 0xF0, 0xFF])
    0x44 0x20 0x00 0x24 0xFD 0x0603 [] = true := by decide

theorem test_lda_AM7 :
    stepEnds (start 0x00 0x00 0x01 0x24 0xFD 0x0600 [(0x1300, 0x55)] [0xB9, 0xFF, 0x12])
    0x55 0x00 0x01 0x24 0xFD 0x0603 [] = true := by decide

theorem test_lda_AM8 :
    stepEnds (start 0x00 0x04 0x00 0x24 0xFD 0x0600 [(0x0024, 0x00), (0x0025, 0x20), (0x2000, 0x66)] [0xA1, 0x20])
    0x66 0x04 0x00 0x24 0xFD 0x0602 [] = true := by decide

theorem test_lda_AM9 :
    stepEnds (start 0x00 0x01 0x00 0x24 0xFD 0x0600 [(0x0000, 0x30), (0x00FF, 0x00), (0x3000, 0x77)] [0xA1, 0xFE])
    0x77 0x01 0x00 0x24 0xFD 0x0602 [] = true := by decide

theorem test_lda_AM10 :
    stepEnds (start 0x00 0x20 0x00 0x24 0xFD 0x0600 [(0x0010, 0x00), (0x0011, 0x21), (0x2100, 0x5A)] [0xA1, 0xF0])
    0x5A 0x20 0x00 0x24 0xFD 0x0602 [] = true := by decide

theorem test_lda_AM12 :
    stepEnds (start 0x00 0x00 0x05 0x24 0xFD 0x0600 [(0x0000, 0x40), (0x00FF, 0x00), (0x4005, 0x88)] [0xB1, 0xFF])
    0x88 0x00 0x05 0xA4 0xFD 0x0602 [] = true := by decide

theorem test_lda_AM13 :
    stepEnds (start 0x00 0x00 0x02 0x24 0xFD 0x0600 [(0x0001, 0xAB), (0x0010, 0xFF), (0x0011, 0xFF)] [0xB1, 0x10])
    0xAB 0x00 0x02 0xA4 0xFD 0x0602 [] = true := by decide

theorem test_lda_AM14 :
    stepEnds (start 0x00 0x00 0x00 0x24 0xFD 0xFFFE [(0x0000, 0x40), (0x4000, 0x01)] [0xAD, 0x00])
    0x01 0x00 0x00 0x24 0xFD 0x0001 [] = true := by decide

theorem test_lda_LS1 :
    stepEnds (start 0x42 0x00 0x00 0x24 0xFD 0x0600 [] [0xA9, 0x00])
    0x00 0x00 0x00 0x26 0xFD 0x0602 [] = true := by decide

theorem test_lda_LS2 :
    stepEnds (start 0x00 0x00 0x00 0x24 0xFD 0x0600 [] [0xA9, 0xFF])
    0xFF 0x00 0x00 0xA4 0xFD 0x0602 [] = true := by decide

theorem test_ldx_LS3 :
    stepEnds (start 0x00 0x00 0x00 0x24 0xFD 0x0600 [] [0xA2, 0xFF])
    0x00 0xFF 0x00 0xA4 0xFD 0x0602 [] = true := by decide

theorem test_ldy_LS4 :
    stepEnds (start 0x00 0x00 0x00 0x26 0xFD 0x0600 [] [0xA0, 0x01])
    0x00 0x00 0x01 0x24 0xFD 0x0602 [] = true := by decide

theorem test_sta_LS5 :
    stepEnds (start 0x05 0x00 0x00 0x24 0xFD 0x0600 [] [0x8D, 0x00, 0x02])
    0x05 0x00 0x00 0x24 0xFD 0x0603 [(0x0200, 0x05)] = true := by decide

theorem test_stx_LS6 :
    stepEnds (start 0x00 0x07 0x02 0x24 0xFD 0x0600 [] [0x96, 0xFF])
    0x00 0x07 0x02 0x24 0xFD 0x0602 [(0x0001, 0x07)] = true := by decide

theorem test_sty_LS7 :
    stepEnds (start 0x00 0x20 0x5A 0x24 0xFD 0x0600 [] [0x94, 0xF0])
    0x00 0x20 0x5A 0x24 0xFD 0x0602 [(0x0010, 0x5A)] = true := by decide

theorem test_sta_LS8 :
    stepEnds (start 0x42 0x00 0xFF 0x24 0xFD 0x0600 [(0x0010, 0x00), (0x0011, 0x03)] [0x91, 0x10])
    0x42 0x00 0xFF 0x24 0xFD 0x0602 [(0x03FF, 0x42)] = true := by decide

theorem test_tax_LS9 :
    stepEnds (start 0x00 0x00 0x00 0xA4 0xFD 0x0600 [] [0xAA])
    0x00 0x00 0x00 0x26 0xFD 0x0601 [] = true := by decide

theorem test_tay_LS10 :
    stepEnds (start 0x80 0x00 0x00 0x24 0xFD 0x0600 [] [0xA8])
    0x80 0x00 0x80 0xA4 0xFD 0x0601 [] = true := by decide

theorem test_txa_LS11 :
    stepEnds (start 0x00 0x01 0x00 0x26 0xFD 0x0600 [] [0x8A])
    0x01 0x01 0x00 0x24 0xFD 0x0601 [] = true := by decide

theorem test_tya_LS12 :
    stepEnds (start 0x00 0x00 0xFE 0x24 0xFD 0x0600 [] [0x98])
    0xFE 0x00 0xFE 0xA4 0xFD 0x0601 [] = true := by decide

theorem test_tsx_LS13 :
    stepEnds (start 0x00 0x00 0x00 0x24 0xFD 0x0600 [] [0xBA])
    0x00 0xFD 0x00 0xA4 0xFD 0x0601 [] = true := by decide

theorem test_txs_LS15 :
    stepEnds (start 0x00 0x00 0x00 0x24 0xFD 0x0600 [] [0x9A])
    0x00 0x00 0x00 0x24 0x00 0x0601 [] = true := by decide

theorem test_adc_AR1 :
    stepEnds (start 0x50 0x00 0x00 0x24 0xFD 0x0600 [] [0x69, 0x50])
    0xA0 0x00 0x00 0xE4 0xFD 0x0602 [] = true := by decide

theorem test_adc_AR6 :
    stepEnds (start 0x09 0x00 0x00 0x2C 0xFD 0x0600 [] [0x69, 0x01])
    0x0A 0x00 0x00 0x2C 0xFD 0x0602 [] = true := by decide

theorem test_sbc_AR9 :
    stepEnds (start 0x80 0x00 0x00 0x25 0xFD 0x0600 [] [0xE9, 0x01])
    0x7F 0x00 0x00 0x65 0xFD 0x0602 [] = true := by decide

theorem test_sbc_AR11 :
    stepEnds (start 0x10 0x00 0x00 0x24 0xFD 0x0600 [] [0xE9, 0x10])
    0xFF 0x00 0x00 0xA4 0xFD 0x0602 [] = true := by decide

theorem test_and_LG2 :
    stepEnds (start 0xF0 0x00 0x00 0x65 0xFD 0x0600 [] [0x29, 0x0F])
    0x00 0x00 0x00 0x67 0xFD 0x0602 [] = true := by decide

theorem test_ora_LG3 :
    stepEnds (start 0x01 0x00 0x00 0x24 0xFD 0x0600 [] [0x09, 0x80])
    0x81 0x00 0x00 0xA4 0xFD 0x0602 [] = true := by decide

theorem test_eor_LG6 :
    stepEnds (start 0x0F 0x00 0x00 0x24 0xFD 0x0600 [] [0x49, 0xFF])
    0xF0 0x00 0x00 0xA4 0xFD 0x0602 [] = true := by decide

theorem test_bit_LG8 :
    stepEnds (start 0x3F 0x00 0x00 0x24 0xFD 0x0600 [(0x0010, 0xC0)] [0x24, 0x10])
    0x3F 0x00 0x00 0xE6 0xFD 0x0602 [] = true := by decide

theorem test_bit_LG9 :
    stepEnds (start 0xFF 0x00 0x00 0xE5 0xFD 0x0600 [(0x0200, 0x00)] [0x2C, 0x00, 0x02])
    0xFF 0x00 0x00 0x27 0xFD 0x0603 [] = true := by decide

theorem test_cmp_CP4 :
    stepEnds (start 0x01 0x00 0x00 0x24 0xFD 0x0600 [] [0xC9, 0xFF])
    0x01 0x00 0x00 0x24 0xFD 0x0602 [] = true := by decide

theorem test_cmp_CP5 :
    stepEnds (start 0x05 0x00 0x00 0x64 0xFD 0x0600 [] [0xC9, 0x03])
    0x05 0x00 0x00 0x65 0xFD 0x0602 [] = true := by decide

theorem test_cpx_CP6 :
    stepEnds (start 0x00 0x03 0x00 0x24 0xFD 0x0600 [] [0xE0, 0x03])
    0x00 0x03 0x00 0x27 0xFD 0x0602 [] = true := by decide

theorem test_cpy_CP7 :
    stepEnds (start 0x00 0x00 0x02 0x24 0xFD 0x0600 [] [0xC0, 0x05])
    0x00 0x00 0x02 0xA4 0xFD 0x0602 [] = true := by decide

theorem test_asl_SH1 :
    stepEnds (start 0x81 0x00 0x00 0x24 0xFD 0x0600 [] [0x0A])
    0x02 0x00 0x00 0x25 0xFD 0x0601 [] = true := by decide

theorem test_asl_SH9 :
    stepEnds (start 0x00 0x00 0x00 0x24 0xFD 0x0600 [(0x0010, 0xC0)] [0x06, 0x10])
    0x00 0x00 0x00 0xA5 0xFD 0x0602 [(0x0010, 0x80)] = true := by decide

theorem test_lsr_SH4 :
    stepEnds (start 0x80 0x00 0x00 0x25 0xFD 0x0600 [] [0x4A])
    0x40 0x00 0x00 0x24 0xFD 0x0601 [] = true := by decide

theorem test_lsr_SH11 :
    stepEnds (start 0x00 0x01 0x00 0x24 0xFD 0x0600 [(0x0010, 0xFF)] [0x56, 0x0F])
    0x00 0x01 0x00 0x25 0xFD 0x0602 [(0x0010, 0x7F)] = true := by decide

theorem test_rol_SH5 :
    stepEnds (start 0x40 0x00 0x00 0x25 0xFD 0x0600 [] [0x2A])
    0x81 0x00 0x00 0xA4 0xFD 0x0601 [] = true := by decide

theorem test_rol_SH12 :
    stepEnds (start 0x00 0x00 0x00 0x25 0xFD 0x0600 [(0x0200, 0xFF)] [0x2E, 0x00, 0x02])
    0x00 0x00 0x00 0xA5 0xFD 0x0603 [(0x0200, 0xFF)] = true := by decide

theorem test_ror_SH8 :
    stepEnds (start 0x00 0x00 0x00 0x25 0xFD 0x0600 [] [0x6A])
    0x80 0x00 0x00 0xA4 0xFD 0x0601 [] = true := by decide

theorem test_ror_SH10 :
    stepEnds (start 0x00 0x01 0x00 0x25 0xFD 0x0600 [(0x0200, 0x03)] [0x7E, 0xFF, 0x01])
    0x00 0x01 0x00 0xA5 0xFD 0x0603 [(0x0200, 0x81)] = true := by decide

theorem test_inc_ID1 :
    stepEnds (start 0x00 0x00 0x00 0x25 0xFD 0x0600 [(0x0010, 0xFF)] [0xE6, 0x10])
    0x00 0x00 0x00 0x27 0xFD 0x0602 [(0x0010, 0x00)] = true := by decide

theorem test_inc_ID3 :
    stepEnds (start 0x00 0x02 0x00 0x24 0xFD 0x0600 [(0x0001, 0x41)] [0xF6, 0xFF])
    0x00 0x02 0x00 0x24 0xFD 0x0602 [(0x0001, 0x42)] = true := by decide

theorem test_dec_ID5 :
    stepEnds (start 0x00 0x00 0x00 0x24 0xFD 0x0600 [(0x0010, 0x00)] [0xC6, 0x10])
    0x00 0x00 0x00 0xA4 0xFD 0x0602 [(0x0010, 0xFF)] = true := by decide

theorem test_dec_ID6 :
    stepEnds (start 0x00 0x10 0x00 0x24 0xFD 0x0600 [(0x0200, 0x80)] [0xDE, 0xF0, 0x01])
    0x00 0x10 0x00 0x24 0xFD 0x0603 [(0x0200, 0x7F)] = true := by decide

theorem test_inx_ID7 :
    stepEnds (start 0x00 0xFF 0x00 0x24 0xFD 0x0600 [] [0xE8])
    0x00 0x00 0x00 0x26 0xFD 0x0601 [] = true := by decide

theorem test_iny_ID8 :
    stepEnds (start 0x00 0x00 0x7F 0x24 0xFD 0x0600 [] [0xC8])
    0x00 0x00 0x80 0xA4 0xFD 0x0601 [] = true := by decide

theorem test_dex_ID9 :
    stepEnds (start 0x00 0x00 0x00 0x24 0xFD 0x0600 [] [0xCA])
    0x00 0xFF 0x00 0xA4 0xFD 0x0601 [] = true := by decide

theorem test_dey_ID11 :
    stepEnds (start 0x00 0x00 0x00 0x24 0xFD 0x0600 [] [0x88])
    0x00 0x00 0xFF 0xA4 0xFD 0x0601 [] = true := by decide

theorem test_pha_ST2 :
    stepEnds (start 0x42 0x00 0x00 0x24 0x00 0x0600 [] [0x48])
    0x42 0x00 0x00 0x24 0xFF 0x0601 [(0x0100, 0x42)] = true := by decide

theorem test_php_ST3 :
    stepEnds (start 0x00 0x00 0x00 0x24 0xFD 0x0600 [] [0x08])
    0x00 0x00 0x00 0x24 0xFC 0x0601 [(0x01FD, 0x34)] = true := by decide

theorem test_php_ST4 :
    stepEnds (start 0x00 0x00 0x00 0xE7 0xFD 0x0600 [] [0x08])
    0x00 0x00 0x00 0xE7 0xFC 0x0601 [(0x01FD, 0xF7)] = true := by decide

theorem test_pla_ST6 :
    stepEnds (start 0x00 0x00 0x00 0x24 0xFF 0x0600 [(0x0100, 0x80)] [0x68])
    0x80 0x00 0x00 0xA4 0x00 0x0601 [] = true := by decide

theorem test_plp_ST7 :
    stepEnds (start 0x00 0x00 0x00 0x24 0xFC 0x0600 [(0x01FD, 0xC3)] [0x28])
    0x00 0x00 0x00 0xE3 0xFD 0x0601 [] = true := by decide

theorem test_plp_ST9 :
    stepEnds (start 0x00 0x00 0x00 0xE7 0xFC 0x0600 [(0x01FD, 0x00)] [0x28])
    0x00 0x00 0x00 0x20 0xFD 0x0601 [] = true := by decide

theorem test_bne_BR1 :
    stepEnds (start 0x00 0x00 0x00 0x24 0xFD 0x0600 [] [0xD0, 0xFC])
    0x00 0x00 0x00 0x24 0xFD 0x05FE [] = true := by decide

theorem test_bne_BR2 :
    stepEnds (start 0x00 0x00 0x00 0x26 0xFD 0x0600 [] [0xD0, 0xFC])
    0x00 0x00 0x00 0x26 0xFD 0x0602 [] = true := by decide

theorem test_beq_BR4 :
    stepEnds (start 0x00 0x00 0x00 0x26 0xFD 0x0600 [] [0xF0, 0xFF])
    0x00 0x00 0x00 0x26 0xFD 0x0602 [] = true := by decide

theorem test_bcc_BR5 :
    stepEnds (start 0x00 0x00 0x00 0x24 0xFD 0x0600 [] [0x90, 0x7F])
    0x00 0x00 0x00 0x24 0xFD 0x0681 [] = true := by decide

theorem test_bcs_BR6 :
    stepEnds (start 0x00 0x00 0x00 0x25 0xFD 0x0600 [] [0xB0, 0x80])
    0x00 0x00 0x00 0x25 0xFD 0x0582 [] = true := by decide

theorem test_bmi_BR7 :
    stepEnds (start 0x00 0x00 0x00 0xA4 0xFD 0xFFF0 [] [0x30, 0x7F])
    0x00 0x00 0x00 0xA4 0xFD 0x0071 [] = true := by decide

theorem test_bpl_BR8 :
    stepEnds (start 0x00 0x00 0x00 0x24 0xFD 0x0010 [] [0x10, 0x80])
    0x00 0x00 0x00 0x24 0xFD 0xFF92 [] = true := by decide

theorem test_bvc_BR9 :
    stepEnds (start 0x00 0x00 0x00 0x24 0xFD 0x0600 [] [0x50, 0x02])
    0x00 0x00 0x00 0x24 0xFD 0x0604 [] = true := by decide

theorem test_bvs_BR11 :
    stepEnds (start 0x00 0x00 0x00 0x64 0xFD 0x0600 [] [0x70, 0x02])
    0x00 0x00 0x00 0x64 0xFD 0x0604 [] = true := by decide

theorem test_bcc_BR12 :
    stepEnds (start 0x00 0x00 0x00 0x25 0xFD 0x0600 [] [0x90, 0x10])
    0x00 0x00 0x00 0x25 0xFD 0x0602 [] = true := by decide

theorem test_jmp_JP1 :
    stepEnds (start 0x00 0x00 0x00 0x24 0xFD 0x0600 [] [0x4C, 0x00, 0x80])
    0x00 0x00 0x00 0x24 0xFD 0x8000 [] = true := by decide

theorem test_jmp_JP2 :
    stepEnds (start 0x00 0x00 0x00 0x24 0xFD 0x0600 [] [0x4C, 0x01, 0x06])
    0x00 0x00 0x00 0x24 0xFD 0x0603 [] = true := by decide

theorem test_jmp_JP4 :
    stepEnds (start 0x00 0x00 0x00 0x24 0xFD 0x0600 [(0x3000, 0x50), (0x30FF, 0x80), (0x3100, 0x40)] [0x6C, 0xFF, 0x30])
    0x00 0x00 0x00 0x24 0xFD 0x5080 [] = true := by decide

theorem test_jmp_JP6 :
    stepEnds (start 0x00 0x00 0x00 0x24 0xFD 0x0600 [(0xFF00, 0x12), (0xFFFF, 0x34)] [0x6C, 0xFF, 0xFF])
    0x00 0x00 0x00 0x24 0xFD 0x1234 [] = true := by decide

theorem test_jsr_JP7 :
    stepEnds (start 0x00 0x00 0x00 0x24 0xFD 0x0600 [] [0x20, 0x00, 0x07])
    0x00 0x00 0x00 0x24 0xFB 0x0700 [(0x01FD, 0x06), (0x01FC, 0x02)] = true := by decide

theorem test_jsr_JP8 :
    stepEnds (start 0x00 0x00 0x00 0x24 0xFD 0x0600 [] [0x20, 0x01, 0x06])
    0x00 0x00 0x00 0x24 0xFB 0x0603 [(0x01FD, 0x06), (0x01FC, 0x02)] = true := by decide

theorem test_jsr_JP9 :
    stepEnds (start 0x00 0x00 0x00 0x24 0x00 0x0600 [] [0x20, 0x00, 0x07])
    0x00 0x00 0x00 0x24 0xFE 0x0700 [(0x0100, 0x06), (0x01FF, 0x02)] = true := by decide

theorem test_rts_JP10 :
    stepEnds (start 0x00 0x00 0x00 0x24 0xFB 0x0600 [(0x01FC, 0x02), (0x01FD, 0x06)] [0x60])
    0x00 0x00 0x00 0x24 0xFD 0x0603 [] = true := by decide

theorem test_rts_JP11 :
    stepEnds (start 0x00 0x00 0x00 0x24 0xFB 0x0600 [(0x01FC, 0xFF), (0x01FD, 0xFF)] [0x60])
    0x00 0x00 0x00 0x24 0xFD 0x0000 [] = true := by decide

theorem test_rti_JP12 :
    stepEnds (start 0x00 0x00 0x00 0x24 0xFA 0x0600 [(0x01FB, 0xC1), (0x01FC, 0x00), (0x01FD, 0x80)] [0x40])
    0x00 0x00 0x00 0xE1 0xFD 0x8000 [] = true := by decide

theorem test_rti_JP13 :
    stepEnds (start 0x00 0x00 0x00 0x24 0xFA 0x0600 [(0x01FB, 0x34), (0x01FC, 0x01), (0x01FD, 0x06)] [0x40])
    0x00 0x00 0x00 0x24 0xFD 0x0601 [] = true := by decide

theorem test_clc_FL1 :
    stepEnds (start 0x00 0x00 0x00 0x25 0xFD 0x0600 [] [0x18])
    0x00 0x00 0x00 0x24 0xFD 0x0601 [] = true := by decide

theorem test_cld_FL2 :
    stepEnds (start 0x00 0x00 0x00 0x2C 0xFD 0x0600 [] [0xD8])
    0x00 0x00 0x00 0x24 0xFD 0x0601 [] = true := by decide

theorem test_cli_FL3 :
    stepEnds (start 0x00 0x00 0x00 0x24 0xFD 0x0600 [] [0x58])
    0x00 0x00 0x00 0x20 0xFD 0x0601 [] = true := by decide

theorem test_clv_FL4 :
    stepEnds (start 0x00 0x00 0x00 0x64 0xFD 0x0600 [] [0xB8])
    0x00 0x00 0x00 0x24 0xFD 0x0601 [] = true := by decide

theorem test_sec_FL5 :
    stepEnds (start 0x00 0x00 0x00 0x24 0xFD 0x0600 [] [0x38])
    0x00 0x00 0x00 0x25 0xFD 0x0601 [] = true := by decide

theorem test_sed_FL6 :
    stepEnds (start 0x00 0x00 0x00 0x24 0xFD 0x0600 [] [0xF8])
    0x00 0x00 0x00 0x2C 0xFD 0x0601 [] = true := by decide

theorem test_sei_FL7 :
    stepEnds (start 0x00 0x00 0x00 0x20 0xFD 0x0600 [] [0x78])
    0x00 0x00 0x00 0x24 0xFD 0x0601 [] = true := by decide

theorem test_brk_HF1 :
    stepHalts (start 0x12 0x00 0x00 0x24 0xFD 0x0600 [] [0x00])
    0x12 0x00 0x00 0x24 0xFD 0x0601 = true := by decide

theorem test_nop_HF2 :
    stepEnds (start 0x00 0x00 0x00 0x24 0xFD 0x0600 [] [0xEA])
    0x00 0x00 0x00 0x24 0xFD 0x0601 [] = true := by decide

theorem test_undefined_HF3 :
    stepIsFatal (start 0x00 0x00 0x00 0x24 0xFD 0x0600 [] [0x02])
    0x00 0x00 0x00 0x24 0xFD 0x0601 0x02 0x0600 = true := by decide

theorem test_undefined_HF5 :
    stepIsFatal (start 0x00 0x00 0x00 0x24 0xFD 0x0600 [] [0x89, 0x00])
    0x00 0x00 0x00 0x24 0xFD 0x0601 0x89 0x0600 = true := by decide

theorem test_nop_HF6 :
    stepEnds (start 0x00 0x00 0x00 0x24 0xFD 0xFFFF [] [0xEA])
    0x00 0x00 0x00 0x24 0xFD 0x0000 [] = true := by decide

/-! ### The access sequences of 95_test_vectors.md (R47) -/

theorem test_accesses_AM9 :
    stepAccesses (start 0x00 0x01 0x00 0x24 0xFD 0x0600 [(0x0000, 0x30), (0x00FF, 0x00), (0x3000, 0x77)] [0xA1, 0xFE])
    [.read 0x0600 0xA1, .read 0x0601 0xFE, .read 0x00FF 0x00, .read 0x0000 0x30, .read 0x3000 0x77] = true := by decide

theorem test_accesses_LS16 :
    stepAccesses (start 0x99 0x00 0x00 0x24 0xFD 0x0600 [(0x0010, 0x11)] [0x85, 0x10])
    [.read 0x0600 0x85, .read 0x0601 0x10, .write 0x0010 0x99] = true := by decide

theorem test_accesses_SH9 :
    stepAccesses (start 0x00 0x00 0x00 0x24 0xFD 0x0600 [(0x0010, 0xC0)] [0x06, 0x10])
    [.read 0x0600 0x06, .read 0x0601 0x10, .read 0x0010 0xC0, .write 0x0010 0x80] = true := by decide

theorem test_accesses_BR12 :
    stepAccesses (start 0x00 0x00 0x00 0x25 0xFD 0x0600 [] [0x90, 0x10])
    [.read 0x0600 0x90] = true := by decide

theorem test_accesses_JP7 :
    stepAccesses (start 0x00 0x00 0x00 0x24 0xFD 0x0600 [] [0x20, 0x00, 0x07])
    [.read 0x0600 0x20, .write 0x01FD 0x06, .write 0x01FC 0x02, .read 0x0601 0x00, .read 0x0602 0x07] = true := by decide

/-! ### The host's interface, reset and memory -/

/-- The very next step after `withFetchWord` runs the word: LDA #$05. -/
theorem test_withFetchWord :
    stepEnds (State.reset.withFetchWord 16 0x05A9) 0x05 0x00 0x00 0x24 0xFD 0x0002 [] = true := by decide

/-- R35: P = 0x24 and SP = 0xFD after reset. -/
theorem test_reset_values : (State.reset.p, State.reset.sp, State.reset.run) = (0x24, 0xFD, .running) := by decide

/-- R260, R262: after the boot of a program at 0x0600, PC is 0x0600 and the first read of the reset is at 0xFFFC. -/
theorem test_boot :
    (match boot .plainRam [] 0x0600 [0xEA, 0x00] with
      | .next t => decide ((t.pc, t.mem.read 0x0600, t.port) =
          ((0x0600, 0xEA, [.read 0xFFFC 0x00, .read 0xFFFD 0x06]) : Addr × Byte × List Access))
      | .fault _ => false
      | .refused _ => false) = true := by decide

/-- Writing what an unlisted byte reads as removes the entry, so that equal memories are equal data. -/
theorem test_memory_canonical : ((Memory.write [] 0x0010 0x42).write 0x0010 0x00) = [] := by decide
theorem test_memory_sorted : ((Memory.write [] 0x0010 0x42).write 0x0005 0x01).wf = true := by decide

/-- L1.5: the word 0x1234 pushed with SP = 0x00 lies at 0x0100 and 0x01FF. -/
theorem test_push16_wraps :
    (State.push16 .plainRam 0x1234 { State.reset with sp := 0x00 }).mem = [(0x0100, 0x12), (0x01FF, 0x34)] := by decide

/-! ### Witnesses: states and operands that meet all hypotheses of an obligation together -/

/-- Running at `pc` with this code there, and otherwise as after reset. -/
def runningAt (pc : Addr) (code : List Byte) : State := start 0x00 0x00 0x00 0x24 0xFD pc [] code

theorem witness_DecodeInvertsEncode :
    MachineCode.wellFormed ⟨.brk, []⟩ = true ∧ MachineCode.wellFormed ⟨.bne, [0xFF]⟩ = true ∧
    MachineCode.wellFormed ⟨.incAbsX, [0xFF, 0xFF]⟩ = true := by decide

theorem witness_DecodedBytesAreTheEncoding : decode [0xFE, 0xFF, 0xFF, 0x02] = .ok (⟨.incAbsX, [0xFF, 0xFF]⟩, [0x02]) := rfl

theorem witness_BytesThatDoNotDecodeAreRejectedByName :
    decodeOpcode 0x02 = none ∧ decodeOpcode 0xFF = none ∧ ([] : List Byte).length < Instr.length .ldaImm - 1 ∧
    [(0x00 : Byte)].length < Instr.length .jmpAbs - 1 := by decide

theorem witness_TheUndefinedBytesAreFatal :
    (runningAt 0x0600 [0x02]).run = .running ∧ (runningAt 0x0600 [0x02]).mem.read (runningAt 0x0600 [0x02]).pc = 0x02 ∧
    (runningAt 0xFFFF [0xFF]).run = .running ∧ (runningAt 0xFFFF [0xFF]).mem.read (runningAt 0xFFFF [0xFF]).pc = 0xFF := by
  decide

/-- An instruction that leaves PC, one that halts, one that reaches its target and one whose target is a0 + 1. -/
theorem witness_StepRunsDecodedInstruction :
    ((runningAt 0xFFFE [0xAD, 0x00, 0x02]).run = .running ∧
      decode (runningAt 0xFFFE [0xAD, 0x00, 0x02]).bytesAtPc = .ok (⟨.ldaAbs, [0x00, 0x02]⟩, [])) ∧
    ((runningAt 0x0600 [0x00]).run = .running ∧ decode (runningAt 0x0600 [0x00]).bytesAtPc = .ok (⟨.brk, []⟩, [0x00, 0x00])) ∧
    ((runningAt 0x0600 [0x4C, 0x00, 0x80]).run = .running ∧
      decode (runningAt 0x0600 [0x4C, 0x00, 0x80]).bytesAtPc = .ok (⟨.jmpAbs, [0x00, 0x80]⟩, [])) ∧
    ((runningAt 0x0600 [0x4C, 0x01, 0x06]).run = .running ∧
      decode (runningAt 0x0600 [0x4C, 0x01, 0x06]).bytesAtPc = .ok (⟨.jmpAbs, [0x01, 0x06]⟩, [])) :=
  ⟨⟨rfl, rfl⟩, ⟨rfl, rfl⟩, ⟨rfl, rfl⟩, rfl, rfl⟩

theorem witness_UnknownOpcodeLeavesTheStateOfR230 :
    (runningAt 0xFFFF [0x02]).run = .running ∧
    decodeOpcode ((runningAt 0xFFFF [0x02]).mem.read (runningAt 0xFFFF [0x02]).pc) = none := by decide

theorem witness_StoppedCoreTakesNoStep :
    State.run { State.reset with run := .halted } = .halted ∧
    State.run { State.reset with run := .fatal (.unknownOpcode 0x02 0x0600) } = .fatal (.unknownOpcode 0x02 0x0600) ∧
    (State.powerUp []).run = .poweredUp := by decide

theorem witness_BrkHaltsAndChangesNothingElse :
    (runningAt 0xFFFF [0x00]).run = .running ∧ (runningAt 0xFFFF [0x00]).mem.read (runningAt 0xFFFF [0x00]).pc = 0x00 ∧
    (Bus.plainRam.read (runningAt 0xFFFF [0x00]).mem (runningAt 0xFFFF [0x00]).pc).1 = 0x00 := by decide

theorem witness_ObserverRunsOncePerCompletedInstruction :
    (runningAt 0x0600 [0xEA]).run = .running ∧ decodeOpcode ((runningAt 0x0600 [0xEA]).fetch .plainRam).1 = some .nop ∧
    execute .plainRam .nop ((runningAt 0x0600 [0xEA]).fetch .plainRam).2 =
      .next ((runningAt 0x0600 [0xEA]).fetch .plainRam).2 ∧
    decodeOpcode ((runningAt 0x0600 [0x02]).fetch .plainRam).1 = none := ⟨rfl, rfl, rfl, rfl⟩

theorem witness_ExecuteOnPlainRamIsExec :
    (runningAt 0x0600 [0xEA]).run = .running ∧
    decodeOpcode ((runningAt 0x0600 [0xEA]).mem.read (runningAt 0x0600 [0xEA]).pc) = some .nop ∧
    (runningAt 0x0600 [0x02]).run = .running ∧
    decodeOpcode ((runningAt 0x0600 [0x02]).mem.read (runningAt 0x0600 [0x02]).pc) = none := by decide

theorem witness_OtherInstructionsAdvanceByTheirLength :
    (runningAt 0xFFFE [0x8D, 0x00, 0x02]).run = .running ∧
    decodeOpcode ((runningAt 0xFFFE [0x8D, 0x00, 0x02]).mem.read (runningAt 0xFFFE [0x8D, 0x00, 0x02]).pc) = some .staAbs ∧
    Mnemonic.isControl (Instr.mnemonic .staAbs) = false := by decide

/-- At both ends of the address space, with and without reads. -/
theorem witness_ResolverNeverWrites :
    (resolve .plainRam .immediate (runningAt 0xFFFF [])).map Prod.fst = some 0xFFFF ∧
    (resolve .plainRam .indirectY (runningAt 0x0000 [0xFF])).map Prod.fst = some 0xFF00 := by decide

theorem witness_ZAndNFollowTheResultByte :
    Instr.writesA .rolAcc = true ∧ Instr.writesX .tsx = true ∧ Instr.writesY .dey = true ∧
    (Instr.storesToEA .incZp = true ∧ [Mnemonic.sta, .stx, .sty].contains (Instr.mnemonic .incZp) = false ∧
      effectiveAddress (Instr.mode .incZp) (runningAt 0x0600 [0xFF]) = some 0x00FF) ∧
    (Instr.mnemonic .cmpImm = .cmp ∧ effectiveAddress (Instr.mode .cmpImm) (runningAt 0xFFFF []) = some 0xFFFF) ∧
    Instr.mnemonic .cpxImm = .cpx ∧ Instr.mnemonic .cpyImm = .cpy ∧ Instr.mnemonic .txs ∉ flagWriters .z := by decide

theorem witness_LoadsCopyTheOperand :
    Instr.mnemonic .ldaIndX = .lda ∧ Instr.mnemonic .ldxZpY = .ldx ∧ Instr.mnemonic .ldyAbsX = .ldy := by decide

theorem witness_StoresWriteOneByte :
    Instr.mnemonic .staIndY = .sta ∧ Instr.mnemonic .stxZpY = .stx ∧ Instr.mnemonic .styAbs = .sty := by decide

theorem witness_TxsWritesOnlySp :
    (runningAt 0xFFFF [0x9A]).run = .running ∧ (runningAt 0xFFFF [0x9A]).mem.read (runningAt 0xFFFF [0x9A]).pc = 0x9A := by
  decide

theorem witness_AdcAddsWithCarry : Instr.mnemonic .adcIndX = .adc := by decide

theorem witness_SbcSubtractsWithBorrow : Instr.mnemonic .sbcAbsY = .sbc := by decide

theorem witness_LogicCombinesBits :
    Instr.mnemonic .andImm = .and ∧ Instr.mnemonic .oraZp = .ora ∧ Instr.mnemonic .eorIndY = .eor := by decide

theorem witness_BitTestsAgainstA : Instr.mnemonic .bitAbs = .bit := by decide

theorem witness_ComparesWriteOnlyCZN :
    Instr.mnemonic .cmpAbsX = .cmp ∧ Instr.mnemonic .cpxZp = .cpx ∧ Instr.mnemonic .cpyImm = .cpy := by decide

theorem witness_ShiftsAndRotates :
    ([Mnemonic.asl, .lsr, .rol, .ror].contains (Instr.mnemonic .aslAcc) = true ∧ Instr.form .aslAcc = .accumulator) ∧
    ([Mnemonic.asl, .lsr, .rol, .ror].contains (Instr.mnemonic .rorAbsX) = true ∧ Instr.form .rorAbsX ≠ .accumulator) := by
  decide

theorem witness_MemoryIncrementAndDecrement : Instr.mnemonic .incAbs = .inc ∧ Instr.mnemonic .decZpX = .dec := by decide

/-- Another address than both stack bytes, with SP at the page boundary. -/
theorem witness_WordsRoundTripThroughTheStack :
    (0x0101 : Addr) ≠ stackByte 0x00 ∧ (0x0101 : Addr) ≠ stackByte (0x00 - 1) := by decide

theorem witness_PushesStoreOneStackByte : (0x01FF : Addr) ≠ stackByte 0x00 := by decide

/-- Not taken, and taken with the displacements 0x7F, 0x80 and 0xFF. -/
theorem witness_BranchesGoRelativeToTheNextInstruction :
    branchCondition (Instr.mnemonic .bcs) (runningAt 0x0600 [0xB0, 0x10]).p = some false ∧
    branchCondition (Instr.mnemonic .bcc) (runningAt 0x0600 [0x90, 0xFF]).p = some true ∧
    ([0x7F, 0x80, 0xFF].all fun d =>
      decide ((runningAt 0xFFF0 [0x90, d]).run = .running) &&
      decide (decodeOpcode ((runningAt 0xFFF0 [0x90, d]).mem.read (runningAt 0xFFF0 [0x90, d]).pc) = some .bcc) &&
      decide ((runningAt 0xFFF0 [0x90, d]).mem.read ((runningAt 0xFFF0 [0x90, d]).pc + 1) = d)) = true := by decide

/-- A pointer that ends in 0xFF, and a target of a0 + 1. -/
theorem witness_JumpsLoadPc :
    ((runningAt 0x0600 [0x6C, 0xFF, 0xFF]).run = .running ∧
      decodeOpcode ((runningAt 0x0600 [0x6C, 0xFF, 0xFF]).mem.read (runningAt 0x0600 [0x6C, 0xFF, 0xFF]).pc) = some .jmpInd) ∧
    ((runningAt 0x0600 [0x4C, 0x01, 0x06]).run = .running ∧
      decodeOpcode ((runningAt 0x0600 [0x4C, 0x01, 0x06]).mem.read (runningAt 0x0600 [0x4C, 0x01, 0x06]).pc) = some .jmpAbs) ∧
    Instr.mnemonic .jmpInd = .jmp ∧ Instr.mnemonic .jmpAbs = .jmp := by decide

/-- A target of a0 + 1, and another byte than the two stored with SP at the page boundary. -/
theorem witness_JsrPushesThenJumps :
    (runningAt 0x0600 [0x20, 0x01, 0x06]).run = .running ∧
    (runningAt 0x0600 [0x20, 0x01, 0x06]).mem.read (runningAt 0x0600 [0x20, 0x01, 0x06]).pc = 0x20 ∧
    (0x0200 : Addr) ≠ stackByte 0x00 ∧ (0x0200 : Addr) ≠ stackByte (0x00 - 1) := by decide

theorem witness_ReturnsPopPc :
    ((runningAt 0xFFFF [0x60]).run = .running ∧
      decodeOpcode ((runningAt 0xFFFF [0x60]).mem.read (runningAt 0xFFFF [0x60]).pc) = some .rts) ∧
    ((runningAt 0x0600 [0x40]).run = .running ∧
      decodeOpcode ((runningAt 0x0600 [0x40]).mem.read (runningAt 0x0600 [0x40]).pc) = some .rti) ∧
    Instr.mnemonic .rts = .rts ∧ Instr.mnemonic .rti = .rti := by decide

/-- A state that agrees with the one after the JSR in SP and the two stack bytes and differs elsewhere, SP at the page
boundary included. -/
theorem witness_RtsReturnsBehindTheJsr :
    ∃ t, exec .jsr { runningAt 0x0600 [0x20, 0x00, 0x07] with sp := 0x00 } = .next t ∧
      let u := { t with a := 0x7F, mem := t.mem.write 0x0200 0x42 }
      u.sp = t.sp ∧ u.mem.read (stackByte 0x00) = t.mem.read (stackByte 0x00) ∧
      u.mem.read (stackByte (0x00 - 1)) = t.mem.read (stackByte (0x00 - 1)) ∧ u.mem ≠ t.mem :=
  ⟨_, rfl, by decide⟩

theorem witness_NopChangesNothing :
    (runningAt 0xFFFF [0xEA]).run = .running ∧ (runningAt 0xFFFF [0xEA]).mem.read (runningAt 0xFFFF [0xEA]).pc = 0xEA := by
  decide

theorem witness_MemoryChangesOnlyWhereStored :
    Instr.storesToEA .rorZp = true ∧ Instr.pushes .jsr = true ∧ Instr.pushes .php = true ∧
    (Instr.storesToEA .aslAcc = false ∧ Instr.pushes .aslAcc = false) ∧ (0x0102 : Addr) ≠ stackByte 0x01 ∧
    (0x0102 : Addr) ≠ stackByte (0x01 - 1) := by decide

theorem witness_RegistersChangeOnlyByTheirWriters :
    Instr.writesA .ldxImm = false ∧ Instr.writesX .txa = false ∧ Instr.writesY .tya = false ∧ Instr.writesSp .tsx = false ∧
    Mnemonic.isControl (Instr.mnemonic .pla) = false := by decide

theorem witness_FlagsChangeOnlyByTheirWriters :
    Instr.mnemonic .incZp ∉ flagWriters .c ∧ Instr.mnemonic .txs ∉ flagWriters .z ∧ Instr.mnemonic .bcc ∉ flagWriters .i ∧
    Instr.mnemonic .adcImm ∉ flagWriters .d ∧ Instr.mnemonic .php ∉ flagWriters .b ∧ Instr.mnemonic .jsr ∉ flagWriters .u ∧
    Instr.mnemonic .cmpImm ∉ flagWriters .v ∧ Instr.mnemonic .rts ∉ flagWriters .n ∧ Instr.mnemonic .plp = .plp ∧
    Instr.mnemonic .rti = .rti := by decide

theorem witness_FlagsAreSeenOnlyByTheirReaders :
    Instr.mnemonic .aslAcc ∉ flagReaders .c ∧ Instr.mnemonic .bcc ∉ flagReaders .z ∧ Instr.mnemonic .rti ∉ flagReaders .i ∧
    Instr.mnemonic .adcImm ∉ flagReaders .d ∧ Instr.mnemonic .php ∉ flagReaders .b ∧ Instr.mnemonic .php ∉ flagReaders .u ∧
    Instr.mnemonic .sbcImm ∉ flagReaders .v ∧ Instr.mnemonic .ldaImm ∉ flagReaders .n := by decide

theorem witness_RegistersAreSeenOnlyByTheirReaders :
    Instr.readsA .ldaImm = false ∧ Instr.readsX .staIndY = false ∧ Instr.readsY .stxZp = false := by decide

theorem witness_EveryStepKeepsTheInvariant :
    State.Inv (runningAt 0x0600 [0x48]) ∧ (∃ t, step (runningAt 0x0600 [0x48]) = .next t ∧
      Steps 1 (runningAt 0x0600 [0x48]) t) :=
  ⟨by unfold State.Inv; decide, _, rfl, .tail (.refl _) rfl⟩

theorem witness_ResetEstablishesTheInvariant :
    (State.powerUp [(0x0010, 0x42)]).run ≠ .running ∧ (State.powerUp [(0x0010, 0x42)]).mem.wf = true := by decide

theorem witness_StepRecordReplaysOnMemory : ∃ t, step (runningAt 0x0600 [0x06, 0x10]) = .next t := ⟨_, rfl⟩

theorem witness_AddressedAccessLists :
    [Mnemonic.lda, .ldx, .ldy, .adc, .sbc, .and, .ora, .eor, .bit, .cmp, .cpx, .cpy].contains (Instr.mnemonic .cpyAbs)
      = true ∧
    Instr.mnemonic .staAbsX = .sta ∧ Instr.mnemonic .stxZpY = .stx ∧ Instr.mnemonic .styZp = .sty ∧
    (Instr.storesToEA .aslZp = true ∧ [Mnemonic.sta, .stx, .sty].contains (Instr.mnemonic .aslZp) = false) ∧
    Instr.form .rorAcc = .accumulator ∧
    (Instr.form .brk = .implied ∧ [Mnemonic.pha, .php, .pla, .plp, .rts, .rti].contains (Instr.mnemonic .brk) = false) := by
  decide

theorem witness_StackAndJumpAccessLists :
    branchCondition (Instr.mnemonic .bvs) State.reset.p = some false ∧
    branchCondition (Instr.mnemonic .bpl) State.reset.p = some true := by decide

theorem witness_StackAccessesStayInTheStackPage :
    [Mnemonic.pha, .php, .pla, .plp, .jsr, .rts, .rti].contains (Instr.mnemonic .jsr) = true := by decide

theorem witness_ResetSequence :
    State.reset.run = .running ∧ (State.powerUp []).run ≠ .running ∧ State.run { State.reset with run := .halted } ≠ .running
      := by decide

/-- A program of the longest admitted kind is long; a short one at the top of memory wraps past the vector. -/
theorem witness_LoadedProgramStartsAtItsBase :
    (List.replicate 65536 (0xEA : Byte)).length ≤ 65536 ∧ [(0xEA : Byte), 0xEA, 0xEA].length ≤ 65536 ∧
    (0xFFFE : Addr) + BitVec.ofNat 16 2 ≠ 0xFFFC ∧ (0xFFFE : Addr) + BitVec.ofNat 16 2 ≠ 0xFFFD ∧
    ∀ k < [(0xEA : Byte), 0xEA, 0xEA].length, (0x0600 : Addr) ≠ 0xFFFE + BitVec.ofNat 16 k :=
  ⟨(List.length_replicate).le, by decide, by decide, by decide, by decide⟩

theorem witness_StoresAreSeenByTheNextFetch :
    effectiveAddress (Instr.mode .staAbs) (runningAt 0xFFFF [0xFF, 0xFF]) = some 0xFFFF ∧ Instr.mnemonic .staAbs = .sta ∧
    Instr.mnemonic .stxZpY = .stx ∧ Instr.mnemonic .styZpX = .sty := by decide

/-- Every addressed mnemonic meets the first hypothesis with the form of an implied row, a shift the second. -/
theorem witness_MisWiredOpcodeFailsLoudly :
    OperandForm.mode .implied = .noneAddressing ∧ OperandForm.mode .accumulator = .noneAddressing ∧
    ([Mnemonic.lda, .ldx, .ldy, .sta, .stx, .sty, .adc, .sbc, .and, .ora, .eor, .bit, .cmp, .cpx, .cpy, .inc,
      .dec].contains .lda = true) ∧
    ([Mnemonic.asl, .lsr, .rol, .ror].contains .ror = true ∧ OperandForm.implied ≠ .accumulator) ∧
    decodeOpcode 0xA9 = some .ldaImm := by decide

/-- A bus whose reads answer 0x5A whatever memory holds. -/
def bus5A : Bus := { Bus.plainRam with read := fun m _ => (0x5A, m) }

/-- R98, R232: the recorded byte is the one the bus answered at the fetch (0x5A), not the one memory holds there (0xA9). -/
theorem test_noAddressing_byte :
    (match executeForm bus5A (State.fetch bus5A (runningAt 0x0600 [0xA9])).1 .lda .implied
        (State.fetch bus5A (runningAt 0x0600 [0xA9])).2 with
      | .fault (.noAddressing mode byte address _) =>
        decide ((mode, byte, address) = (AddressingMode.noneAddressing, 0x5A, 0x0600))
      | _ => false) = true := by decide

/-- Beside that bus, plain RAM that holds 0x5A at its own effective address. -/
theorem witness_OperandInstructionsAgreeOnEveryBus :
    let s := runningAt 0x0600 [0x10]
    let plain : State := { s with mem := s.mem.write 0x0010 0x5A }
    [Mnemonic.lda, .ldx, .ldy, .adc, .sbc, .and, .ora, .eor, .bit, .cmp, .cpx, .cpy].contains (Instr.mnemonic .ldaZp)
      = true ∧
    ∃ u, resolve bus5A (Instr.mode .ldaZp) s = some (0x005A, u) ∧
      plain = { s with mem := plain.mem, port := plain.port } ∧
      effectiveAddress (Instr.mode .ldaZp) plain = some 0x0010 ∧
      plain.mem.read 0x0010 = (bus5A.read u.mem 0x005A).1 := ⟨by decide, _, rfl, rfl, by decide⟩

end Sys2Proof.Tests
end

/-! What an instruction reads and what it writes (10_state.md R22, R26, R29, R30). `Respects bus i R` says that the
relation `R` of two states is kept by every access that instruction `i` is allowed: reads of the parts it is a reader of,
writes of the parts it is a writer of, and the memory port. `Respects.execute` is the one walk over the handlers: each
instruction keeps every such relation, so it makes no other access. Frames and noninterference are choices of `R`. -/

namespace Sys2Proof.Machine

/-- The parts of the state whose readers and writers the spec lists (10_state.md R22, R26, R29, R30). -/
inductive Part where
  | a | x | y | sp | pc | run
  | flag (f : Flag)

/-- The part holds the same value in both states. -/
def Part.Same (s t : State) : Part → Prop
  | .a => t.a = s.a
  | .x => t.x = s.x
  | .y => t.y = s.y
  | .sp => t.sp = s.sp
  | .pc => t.pc = s.pc
  | .run => t.run = s.run
  | .flag f => t.flag f = s.flag f

/-- The readers of a part. The spec lists none for SP and PC, so every instruction counts as one; none reads Run. -/
def Part.ReadBy (i : Instr) : Part → Prop
  | .a => i.readsA = true
  | .x => i.readsX = true
  | .y => i.readsY = true
  | .sp => True
  | .pc => True
  | .run => False
  | .flag f => i.mnemonic ∈ flagReaders f

/-- The writers of a part. -/
def Part.WrittenBy (i : Instr) : Part → Prop
  | .a => i.writesA = true
  | .x => i.writesX = true
  | .y => i.writesY = true
  | .sp => i.writesSp = true
  | .pc => i.mnemonic.isControl = true
  | .run => i.mnemonic = .brk
  | .flag f => i.mnemonic ∈ flagWriters f

/-- Both outcomes are next states, related by `R`. -/
def Related (R : State → State → Prop) (r r' : Result) : Prop := ∃ s t, r = .next s ∧ r' = .next t ∧ R s t

/-- The same value beside states related by `R`. -/
def RelatedPair {α : Type} (R : State → State → Prop) (e e' : α × State) : Prop := e'.1 = e.1 ∧ R e.2 e'.2

/-- `R` is kept by every access that instruction `i` may make. That `i` is a reader or a writer of a part is found from
its mnemonic, where the context holds it. -/
structure Respects (bus : Bus) (i : Instr) (R : State → State → Prop) : Prop where
  see : ∀ {s t}, R s t → ∀ d : Part, d.ReadBy i → d.Same s t
  setA : ∀ {s t v w}, R s t → w = v → (hw : Part.a.WrittenBy i := by simp [Part.WrittenBy, Instr.writesA, *]) →
    R { s with a := v } { t with a := w }
  setX : ∀ {s t v w}, R s t → w = v → (hw : Part.x.WrittenBy i := by simp [Part.WrittenBy, Instr.writesX, *]) →
    R { s with x := v } { t with x := w }
  setY : ∀ {s t v w}, R s t → w = v → (hw : Part.y.WrittenBy i := by simp [Part.WrittenBy, Instr.writesY, *]) →
    R { s with y := v } { t with y := w }
  setSp : ∀ {s t v w}, R s t → w = v → (hw : Part.sp.WrittenBy i := by simp [Part.WrittenBy, Instr.writesSp, *]) →
    R { s with sp := v } { t with sp := w }
  setPc : ∀ {s t v w}, R s t → w = v →
    (hw : Part.pc.WrittenBy i := by simp [Part.WrittenBy, Mnemonic.isControl, *]) →
    R { s with pc := v } { t with pc := w }
  halt : ∀ {s t}, R s t → (hw : Part.run.WrittenBy i := by simp [Part.WrittenBy, *]) → R s.halt t.halt
  writeFlag : ∀ {s t f b c}, R s t → c = b →
    (hw : (Part.flag f).WrittenBy i := by simp [Part.WrittenBy, flagWriters, *]) →
    R (s.writeFlag f b) (t.writeFlag f c)
  memRead : ∀ {s t ad ad'}, R s t → ad' = ad →
    RelatedPair R (s.memRead bus ad) (t.memRead bus ad')
  memWrite : ∀ {s t ad ad' v w}, R s t → ad' = ad → w = v → R (s.memWrite bus ad v) (t.memWrite bus ad' w)

/-- A read-modify-write function gives equal bytes from related states, and what it does to P keeps `R`. -/
def RelatedFn (R : State → State → Prop) (f : ShiftFn) : Prop :=
  ∀ v {s t : State}, R s t → (f v t.p).1 = (f v s.p).1 ∧ R { s with p := (f v s.p).2 } { t with p := (f v t.p).2 }

/-- The end of a jump: the word found becomes PC. -/
def jumpTo (e : Addr × State) : Result := .next { e.2 with pc := e.1 }

section
variable {bus : Bus} {i : Instr} {R : State → State → Prop} {s t : State}

theorem Related.next (h : R s t) : Related R (.next s) (.next t) := ⟨s, t, rfl, rfl, h⟩

/-- What is done with an equal value and related states is related. -/
theorem RelatedPair.bind {α β : Type} {S : β → β → Prop} {e e' : α × State} (h : RelatedPair R e e')
    {k : α → State → β} (hk : ∀ v {s t}, R s t → S (k v s) (k v t)) : S (k e.1 e.2) (k e'.1 e'.2) := by
  obtain ⟨hv, hs⟩ := h
  rw [hv]
  exact hk _ hs

/-- A value computed alike from an equal value and related states. -/
theorem RelatedPair.map {α β : Type} {e e' : α × State} (h : RelatedPair R e e') (f : α → State → β)
    (hf : ∀ v {s t}, R s t → f v t = f v s) : RelatedPair R (f e.1 e.2, e.2) (f e'.1 e'.2, e'.2) :=
  h.bind (k := fun v u => (f v u, u)) fun v _ _ h => ⟨hf v h, h⟩

/-- An addressed mnemonic in a form that has an address. -/
theorem mode_ne_none {m : Mnemonic} (hi : i.mnemonic = m) (hm : m ∈ addressedMnemonics := by decide) :
    i.mode ≠ .noneAddressing := addressed_mode (hi ▸ hm)

namespace Respects

theorem readA (hR : Respects bus i R) (h : R s t)
    (hr : Part.a.ReadBy i := by simp [Part.ReadBy, Instr.readsA, *]) : t.a = s.a := hR.see h .a hr

theorem readX (hR : Respects bus i R) (h : R s t)
    (hr : Part.x.ReadBy i := by simp [Part.ReadBy, Instr.readsX, *]) : t.x = s.x := hR.see h .x hr

theorem readY (hR : Respects bus i R) (h : R s t)
    (hr : Part.y.ReadBy i := by simp [Part.ReadBy, Instr.readsY, *]) : t.y = s.y := hR.see h .y hr

theorem readSp (hR : Respects bus i R) (h : R s t) : t.sp = s.sp := hR.see h .sp trivial

theorem readPc (hR : Respects bus i R) (h : R s t) : t.pc = s.pc := hR.see h .pc trivial

theorem readFlag (hR : Respects bus i R) (h : R s t) (f : Flag)
    (hr : (Part.flag f).ReadBy i := by simp [Part.ReadBy, flagReaders, *]) : t.flag f = s.flag f :=
  hR.see h (.flag f) hr

/-! The shared operations on memory and the stack. -/

theorem memReadPair (hR : Respects bus i R) (h : R s t) {lo hi lo' hi' : Addr} (hlo : lo' = lo) (hhi : hi' = hi) :
    RelatedPair R (s.memReadPair bus lo hi) (t.memReadPair bus lo' hi') := by
  subst hhi
  exact (hR.memRead h hlo).bind (k := fun b u => (joinBytes (u.memRead bus hi').1 b, (u.memRead bus hi').2))
    fun b _ _ h => (hR.memRead h rfl).map (fun c _ => joinBytes c b) fun _ _ _ _ => rfl

theorem memRead16 (hR : Respects bus i R) (h : R s t) {ad ad' : Addr} (had : ad' = ad) :
    RelatedPair R (s.memRead16 bus ad) (t.memRead16 bus ad') := hR.memReadPair h had (by rw [had])

theorem push (hR : Respects bus i R) (h : R s t) {v w : Byte} (hv : w = v)
    (hw : Part.sp.WrittenBy i := by simp [Part.WrittenBy, Instr.writesSp, *]) :
    R (s.push bus v) (t.push bus w) :=
  hR.setSp (hR.memWrite h (by rw [hR.readSp h]) hv) (by rw [State.memWrite_sp, State.memWrite_sp, hR.readSp h]) hw

theorem push16 (hR : Respects bus i R) (h : R s t) {v w : Addr} (hv : w = v)
    (hw : Part.sp.WrittenBy i := by simp [Part.WrittenBy, Instr.writesSp, *]) :
    R (s.push16 bus v) (t.push16 bus w) :=
  hR.push (hR.push h (by rw [hv]) hw) (by rw [hv]) hw

theorem pop (hR : Respects bus i R) (h : R s t)
    (hw : Part.sp.WrittenBy i := by simp [Part.WrittenBy, Instr.writesSp, *]) :
    RelatedPair R (s.pop bus) (t.pop bus) :=
  hR.memRead (hR.setSp h (by rw [hR.readSp h]) hw) (by rw [hR.readSp h])

theorem pop16 (hR : Respects bus i R) (h : R s t)
    (hw : Part.sp.WrittenBy i := by simp [Part.WrittenBy, Instr.writesSp, *]) :
    RelatedPair R (s.pop16 bus) (t.pop16 bus) :=
  (hR.pop h hw).bind (k := fun b u => (joinBytes (u.pop bus).1 b, (u.pop bus).2))
    fun b _ _ h => (hR.pop h hw).map (fun c _ => joinBytes c b) fun _ _ _ _ => rfl

/-! The shared writes of P. -/

theorem updateZN (hR : Respects bus i R) (h : R s t) {r r' : Byte} (hr : r' = r)
    (hw : ∀ f ∈ [Flag.z, .n], (Part.flag f).WrittenBy i := by simp [Part.WrittenBy, flagWriters, *]) :
    R (s.updateZN r) (t.updateZN r') :=
  hR.writeFlag (hR.writeFlag h (by rw [hr]) (hw .z (by simp))) (by rw [hr]) (hw .n (by simp))

theorem statusCompare (hR : Respects bus i R) (h : R s t) {reg reg' m : Byte} (hr : reg' = reg)
    (hw : ∀ f ∈ [Flag.c, .z, .n], (Part.flag f).WrittenBy i := by simp [Part.WrittenBy, flagWriters, *]) :
    R { s with p := Machine.statusCompare s.p reg m } { t with p := Machine.statusCompare t.p reg' m } := by
  subst hr
  have hc := hR.writeFlag (b := decide (m.toNat ≤ reg'.toNat)) h rfl (hw .c (by simp))
  exact hR.updateZN hc rfl fun f hf => hw f (by simp [hf])

theorem statusBit (hR : Respects bus i R) (h : R s t) (m : Byte)
    (hr : Part.a.ReadBy i := by simp [Part.ReadBy, Instr.readsA, *])
    (hw : ∀ f ∈ [Flag.z, .v, .n], (Part.flag f).WrittenBy i := by simp [Part.WrittenBy, flagWriters, *]) :
    R { s with p := statusBit s.p s.a m } { t with p := statusBit t.p t.a m } := by
  have hz := hR.writeFlag h (show decide (t.a &&& m = 0x00#8) = decide (s.a &&& m = 0x00#8) by rw [hR.readA h hr])
    (hw .z (by simp))
  have hv := hR.writeFlag (b := m.getLsbD 6) hz rfl (hw .v (by simp))
  exact hR.writeFlag hv rfl (hw .n (by simp))

theorem addToA (hR : Respects bus i R) (h : R s t) (m : Byte)
    (hrA : Part.a.ReadBy i := by simp [Part.ReadBy, Instr.readsA, *])
    (hrC : (Part.flag .c).ReadBy i := by simp [Part.ReadBy, flagReaders, *])
    (hwA : Part.a.WrittenBy i := by simp [Part.WrittenBy, Instr.writesA, *])
    (hw : ∀ f ∈ [Flag.c, .v, .z, .n], (Part.flag f).WrittenBy i := by simp [Part.WrittenBy, flagWriters, *]) :
    R (s.addToA m) (t.addToA m) := by
  have hA : t.a = s.a := hR.readA h hrA
  have hC : getFlag t.p .c = getFlag s.p .c := hR.readFlag h .c hrC
  rw [State.addToA, State.addToA, statusAdd, statusAdd, State.flag, State.flag, hA, hC]
  have ha := hR.setA (v := addResult s.a m (getFlag s.p .c)) h rfl hwA
  have hc := hR.writeFlag (b := addCarry s.a m (getFlag s.p .c)) ha rfl (hw .c (by simp))
  have hv := hR.writeFlag (b := addOverflow s.a m (getFlag s.p .c)) hc rfl (hw .v (by simp))
  exact hR.updateZN hv rfl fun f hf => hw f (List.mem_cons_of_mem _ (List.mem_cons_of_mem _ hf))

theorem foldl_writeFlag (l : List Flag) (q : Byte) (s : State) :
    l.foldl (fun s f => s.writeFlag f (getFlag q f)) s =
      { s with p := l.foldl (fun p f => setFlag p f (getFlag q f)) s.p } := by
  induction l generalizing s with
  | nil => rfl
  | cons f l ih => exact ih _

/-- P set to `q` is a write of each of the eight flags (R25). -/
theorem writeFlags_eq (s : State) (q : Byte) :
    [Flag.c, .z, .i, .d, .b, .u, .v, .n].foldl (fun s f => s.writeFlag f (getFlag q f)) s = { s with p := q } := by
  rw [foldl_writeFlag]
  congr
  exact status_ext fun f => by cases f <;> simp

theorem setP (hR : Respects bus i R) (h : R s t) (q : Byte)
    (hw : ∀ f, (Part.flag f).WrittenBy i := by intro f; cases f <;> simp [Part.WrittenBy, flagWriters, *]) :
    R { s with p := q } { t with p := q } := by
  rw [← writeFlags_eq, ← writeFlags_eq]
  generalize [Flag.c, .z, .i, .d, .b, .u, .v, .n] = l
  induction l generalizing s t with
  | nil => exact h
  | cons f l ih => exact ih (hR.writeFlag h rfl (hw f))

theorem pullStatus (hR : Respects bus i R) (h : R s t)
    (hsp : Part.sp.WrittenBy i := by simp [Part.WrittenBy, Instr.writesSp, *])
    (hw : ∀ f, (Part.flag f).WrittenBy i := by intro f; cases f <;> simp [Part.WrittenBy, flagWriters, *]) :
    R (s.pullStatus bus) (t.pullStatus bus) :=
  (hR.pop h hsp).bind (k := fun v u => { u with p := pulledStatus v }) fun _ _ _ h => hR.setP h _ hw

/-- The byte PHP pushes takes B and U as 1 whatever they are, so it is equal when the other flags are (R177). -/
theorem pushedStatus_eq (hR : Respects bus i R) (h : R s t) (hi : i.mnemonic = .php) :
    pushedStatus t.p = pushedStatus s.p := by
  refine status_ext fun f => ?_
  rw [getFlag_pushedStatus, getFlag_pushedStatus]
  split
  · rfl
  · next hf => exact hR.readFlag h f (by cases f <;> simp_all [Part.ReadBy, flagReaders])

/-! The resolver and the shapes of an instruction over it. -/

/-- The address of every mode is found from PC, memory and the index registers that the mode reads (R89 to R97). -/
theorem resolve (hR : Respects bus i R) (h : R s t) (hm : i.mode ≠ .noneAddressing) :
    ∃ e e', resolve bus i.mode s = some e ∧ resolve bus i.mode t = some e' ∧ RelatedPair R e e' := by
  have hb : RelatedPair R (s.memRead bus s.pc) (t.memRead bus t.pc) := hR.memRead h (hR.readPc h)
  have hw : RelatedPair R (s.memRead16 bus s.pc) (t.memRead16 bus t.pc) := hR.memRead16 h (hR.readPc h)
  cases hi : i.mode
  case noneAddressing => exact absurd hi hm
  all_goals refine ⟨_, _, rfl, rfl, ?_⟩
  case immediate => exact ⟨hR.readPc h, h⟩
  case zeroPage => exact hb.map (fun b _ => zext16 b) fun _ _ _ _ => rfl
  case zeroPageX => exact hb.map (fun b u => zext16 (b + u.x)) fun _ _ _ h => by rw [hR.readX h]
  case zeroPageY => exact hb.map (fun b u => zext16 (b + u.y)) fun _ _ _ h => by rw [hR.readY h]
  case absolute => exact hw
  case absoluteX => exact hw.map (fun w u => w + zext16 u.x) fun _ _ _ h => by rw [hR.readX h]
  case absoluteY => exact hw.map (fun w u => w + zext16 u.y) fun _ _ _ h => by rw [hR.readY h]
  case indirectX =>
    exact hb.bind (k := fun b u => u.readZeroPagePointer bus (b + u.x)) fun b _ _ h =>
      hR.memReadPair h (by rw [hR.readX h]) (by rw [hR.readX h])
  case indirectY =>
    have hp := hb.bind (k := fun b u => u.readZeroPagePointer bus b) fun _ _ _ h => hR.memReadPair h rfl rfl
    exact hp.map (fun w u => w + zext16 u.y) fun _ _ _ h => by rw [hR.readY h]

theorem withEA (hR : Respects bus i R) (h : R s t) (hm : i.mode ≠ .noneAddressing) {op : Byte}
    {k : Addr → State → Result} (hk : ∀ ea {s t}, R s t → Related R (k ea s) (k ea t)) :
    Related R (withEA bus op i.mode s k) (withEA bus op i.mode t k) := by
  obtain ⟨e, e', hs, ht, he⟩ := hR.resolve h hm
  rw [withEA_of_resolve hs, withEA_of_resolve ht]
  exact he.bind hk

theorem withOperand (hR : Respects bus i R) (h : R s t) (hm : i.mode ≠ .noneAddressing) {op : Byte}
    {k : Byte → State → Result} (hk : ∀ v {s t}, R s t → Related R (k v s) (k v t)) :
    Related R (withOperand bus op i.mode s k) (withOperand bus op i.mode t k) :=
  hR.withEA h hm fun _ _ _ h => (hR.memRead h rfl).bind hk

theorem store (hR : Respects bus i R) (h : R s t) (hm : i.mode ≠ .noneAddressing) {op : Byte} {v : State → Byte}
    (hv : ∀ {s t}, R s t → v t = v s) :
    Related R (store bus op i.mode v s) (store bus op i.mode v t) :=
  hR.withEA h hm fun _ _ _ h => .next (hR.memWrite h rfl (hv h))

theorem readModifyWrite (hR : Respects bus i R) (h : R s t) {op : Byte} {f : ShiftFn} (hm : i.mode ≠ .noneAddressing)
    (hf : RelatedFn R f)
    (hw : ∀ f ∈ [Flag.z, .n], (Part.flag f).WrittenBy i := by simp [Part.WrittenBy, flagWriters, *]) :
    Related R (readModifyWrite bus op i.mode f s) (readModifyWrite bus op i.mode f t) :=
  hR.withEA h hm fun ea _ _ h =>
    (hR.memRead h rfl).bind (k := fun v u => Host.Outcome.next (State.updateZN
      (State.memWrite bus ea (f v u.p).1 { u with p := (f v u.p).2 }) (f v u.p).1)) fun v _ _ h =>
      have ⟨hv, hp⟩ := hf v h
      Related.next (hR.updateZN (hR.memWrite hp rfl hv) hv hw)

theorem modifyA (hR : Respects bus i R) (h : R s t) {f : ShiftFn} (hf : RelatedFn R f)
    (hr : Part.a.ReadBy i := by simp [Part.ReadBy, Instr.readsA, *])
    (hwA : Part.a.WrittenBy i := by simp [Part.WrittenBy, Instr.writesA, *])
    (hw : ∀ f ∈ [Flag.z, .n], (Part.flag f).WrittenBy i := by simp [Part.WrittenBy, flagWriters, *]) :
    Related R (modifyA f s) (modifyA f t) := by
  have ⟨hv, hp⟩ := hf s.a h
  rw [Machine.modifyA, Machine.modifyA, hR.readA h hr]
  exact Related.next (hR.updateZN (hR.setA hp hv hwA) hv hw)

/-- The two forms of a shift or rotate (R101, R160). -/
theorem shift (hR : Respects bus i R) (h : R s t) {f : ShiftFn} {op : Byte}
    (hi : i.mnemonic ∈ [Mnemonic.asl, .lsr, .rol, .ror]) (hf : RelatedFn R f)
    (hw : ∀ f ∈ [Flag.z, .n], (Part.flag f).WrittenBy i := by simp [Part.WrittenBy, flagWriters, *]) :
    Related R (if i.form = .accumulator then Machine.modifyA f s else Machine.readModifyWrite bus op i.mode f s)
      (if i.form = .accumulator then Machine.modifyA f t else Machine.readModifyWrite bus op i.mode f t) := by
  split
  · exact hR.modifyA h hf (hw := hw)
  · next hform => exact hR.readModifyWrite h (shift_mode hi hform) hf hw

theorem branch (hR : Respects bus i R) (h : R s t) {cond cond' : Bool} (hc : cond' = cond)
    (hw : Part.pc.WrittenBy i := by simp [Part.WrittenBy, Mnemonic.isControl, *]) :
    Related R (branch bus cond s) (branch bus cond' t) := by
  subst hc
  cases cond' with
  | false => exact .next h
  | true =>
    exact (hR.memRead h (hR.readPc h)).bind
      (k := fun d u => Host.Outcome.next { u with pc := u.pc + 1 + sext16 d })
      fun _ _ _ h => Related.next (hR.setPc h (by rw [hR.readPc h]) hw)

theorem jump (hR : Respects bus i R) {e e' : Addr × State} (h : RelatedPair R e e')
    (hw : Part.pc.WrittenBy i := by simp [Part.WrittenBy, Mnemonic.isControl, *]) :
    Related R (Machine.jumpTo e) (Machine.jumpTo e') := .next (hR.setPc h.2 h.1 hw)

/-- Instruction `i` reads no part of the state but those it is a reader of, and writes none but those it is a writer of:
it keeps every relation that those accesses keep (10_state.md R22, R26, R29). -/
theorem execute (hR : Respects bus i R) (h : R s t) : Related R (execute bus i s) (execute bus i t) := by
  cases hi : i.mnemonic <;> simp only [execute_of_mnemonic hi, executeForm]
  -- Loads, stores and transfers (41_load_store_transfer.md)
  case lda => exact hR.withOperand h (mode_ne_none hi) fun _ _ _ h => .next (hR.updateZN (hR.setA h rfl) rfl)
  case ldx => exact hR.withOperand h (mode_ne_none hi) fun _ _ _ h => .next (hR.updateZN (hR.setX h rfl) rfl)
  case ldy => exact hR.withOperand h (mode_ne_none hi) fun _ _ _ h => .next (hR.updateZN (hR.setY h rfl) rfl)
  case sta => exact hR.store h (mode_ne_none hi) fun h => hR.readA h
  case stx => exact hR.store h (mode_ne_none hi) fun h => hR.readX h
  case sty => exact hR.store h (mode_ne_none hi) fun h => hR.readY h
  case tax => exact .next (hR.updateZN (hR.setX h (hR.readA h)) (hR.readA h))
  case tay => exact .next (hR.updateZN (hR.setY h (hR.readA h)) (hR.readA h))
  case txa => exact .next (hR.updateZN (hR.setA h (hR.readX h)) (hR.readX h))
  case tya => exact .next (hR.updateZN (hR.setA h (hR.readY h)) (hR.readY h))
  case tsx => exact .next (hR.updateZN (hR.setX h (hR.readSp h)) (hR.readSp h))
  case txs => exact .next (hR.setSp h (hR.readX h))
  -- Arithmetic, logic, bit test and compare (42_arithmetic_logic.md)
  case adc | sbc => exact hR.withOperand h (mode_ne_none hi) fun _ _ _ h => .next (hR.addToA h _)
  case and | ora | eor =>
    exact hR.withOperand h (mode_ne_none hi) fun _ _ _ h =>
      .next (hR.updateZN (hR.setA h (by rw [hR.readA h])) (by rw [hR.readA h]))
  case bit => exact hR.withOperand h (mode_ne_none hi) fun _ _ _ h => .next (hR.statusBit h _)
  case cmp => exact hR.withOperand h (mode_ne_none hi) fun _ _ _ h => .next (hR.statusCompare h (hR.readA h))
  case cpx => exact hR.withOperand h (mode_ne_none hi) fun _ _ _ h => .next (hR.statusCompare h (hR.readX h))
  case cpy => exact hR.withOperand h (mode_ne_none hi) fun _ _ _ h => .next (hR.statusCompare h (hR.readY h))
  -- Shifts, rotates, increments and decrements (43_shift_incdec.md)
  case asl | lsr => exact hR.shift h (by simp [hi]) fun _ _ _ h => ⟨rfl, hR.writeFlag h rfl⟩
  case rol | ror =>
    refine hR.shift h (by simp [hi]) fun v s t h => ⟨?_, hR.writeFlag h rfl⟩
    have hc : getFlag t.p .c = getFlag s.p .c := hR.readFlag h .c
    simp only [rolFn, rorFn, hc]
  case inc | dec => exact hR.readModifyWrite h (mode_ne_none hi) fun _ _ _ h => ⟨rfl, h⟩
  case inx | dex => exact .next (hR.updateZN (hR.setX h (by rw [hR.readX h])) (by rw [hR.readX h]))
  case iny | dey => exact .next (hR.updateZN (hR.setY h (by rw [hR.readY h])) (by rw [hR.readY h]))
  -- Stack instructions (44_stack.md)
  case pha => exact .next (hR.push h (hR.readA h))
  case php => exact .next (hR.push h (hR.pushedStatus_eq h hi))
  case pla =>
    exact (hR.pop h).bind (k := fun v u => Host.Outcome.next (State.updateZN { u with a := v } v))
      fun _ _ _ h => Related.next (hR.updateZN (hR.setA h rfl) rfl)
  case plp => exact .next (hR.pullStatus h)
  -- Branches, jumps, calls, returns, halt and no-op (45_control.md)
  case bcc | bcs => exact hR.branch h (by rw [hR.readFlag h .c])
  case beq | bne => exact hR.branch h (by rw [hR.readFlag h .z])
  case bmi | bpl => exact hR.branch h (by rw [hR.readFlag h .n])
  case bvc | bvs => exact hR.branch h (by rw [hR.readFlag h .v])
  case jmp =>
    split
    · exact (hR.memRead16 h (hR.readPc h)).bind (S := Related R)
        (k := fun ptr u => Machine.jumpTo (u.memReadPair bus ptr (indirectHighAddr ptr)))
        fun _ _ _ h => hR.jump (hR.memReadPair h rfl rfl)
    · exact hR.jump (hR.memRead16 h (hR.readPc h))
  case jsr =>
    have hp := hR.push16 h (v := s.pc + 1) (w := t.pc + 1) (by rw [hR.readPc h])
    exact hR.jump (hR.memRead16 hp (hR.readPc hp))
  case rts => exact hR.jump ((hR.pop16 h).map (fun w _ => w + 1) fun _ _ _ _ => rfl)
  case rti => exact hR.jump (hR.pop16 (hR.pullStatus h))
  case brk => exact .next (hR.halt h)
  case nop => exact .next h
  -- Flag set and clear (46_flags.md)
  case clc | cld | cli | clv | sec | sed | sei => exact .next (hR.writeFlag h rfl)

end Respects
end

/-! Noninterference: two states that differ in one part. -/

/-- The states agree but for part `c`. -/
structure AgreeBut (c : Part) (s t : State) : Prop where
  same : ∀ d, d ≠ c → d.Same s t
  mem : t.mem = s.mem
  port : t.port = s.port

/-- An instruction that is no reader of `c` keeps two states that agree but for `c` so. -/
theorem AgreeBut.respects {i : Instr} {c : Part} (bus : Bus) (hc : ¬ c.ReadBy i) : Respects bus i (AgreeBut c) where
  see h d hd := h.same d fun e => hc (e ▸ hd)
  setA h hv _ := ⟨fun d hd => by cases d with | a => exact hv | _ => exact h.same _ hd, h.mem, h.port⟩
  setX h hv _ := ⟨fun d hd => by cases d with | x => exact hv | _ => exact h.same _ hd, h.mem, h.port⟩
  setY h hv _ := ⟨fun d hd => by cases d with | y => exact hv | _ => exact h.same _ hd, h.mem, h.port⟩
  setSp h hv _ := ⟨fun d hd => by cases d with | sp => exact hv | _ => exact h.same _ hd, h.mem, h.port⟩
  setPc h hv _ := ⟨fun d hd => by cases d with | pc => exact hv | _ => exact h.same _ hd, h.mem, h.port⟩
  halt h _ := ⟨fun d hd => by cases d with | run => rfl | _ => exact h.same _ hd, h.mem, h.port⟩
  writeFlag {s t f b c} h hb _ := by
    refine ⟨fun d hd => ?_, h.mem, h.port⟩
    cases d with
    | flag g =>
      have hg : getFlag t.p g = getFlag s.p g := h.same _ hd
      simp [Part.Same, State.flag, hg, hb]
    | _ => exact h.same _ hd
  memRead h had := by
    subst had
    refine ⟨by simp [h.mem], fun d hd => ?_, by simp [h.mem], by simp [h.mem, h.port]⟩
    cases d <;> exact h.same _ hd
  memWrite h had hv := by
    subst had hv
    refine ⟨fun d hd => ?_, by simp [h.mem], by simp [h.port]⟩
    cases d <;> exact h.same _ hd

theorem AgreeBut.exec {i : Instr} {c : Part} {s s' : State} (h : AgreeBut c s s') (hc : ¬ c.ReadBy i) :
    ∃ t u, exec i s = .next t ∧ exec i s' = .next u ∧ AgreeBut c t u := by
  rw [exec_eq_execute, exec_eq_execute]
  exact (AgreeBut.respects .plainRam hc).execute h

/-- The parts, memory and the port record are the whole state (R20). -/
theorem State.eq_of_same {s t : State} (h : ∀ d : Part, d.Same s t) (hm : t.mem = s.mem) (hp : t.port = s.port) :
    t = s := by
  have hP : t.p = s.p := status_ext fun f => h (.flag f)
  cases s
  cases t
  rw [State.mk.injEq]
  exact ⟨h .a, h .x, h .y, hP, h .sp, h .pc, h .run, hm, hp⟩

/-- Two states that each agree with `s` but for `c`, and hold the same in `c`, are equal. -/
theorem AgreeBut.eq {c : Part} {s t u : State} (hu : AgreeBut c s u) (ht : AgreeBut c s t) (hc : c.Same t u) :
    u = t := by
  refine State.eq_of_same (fun d => ?_) (hu.mem.trans ht.mem.symm) (hu.port.trans ht.port.symm)
  rcases eq_or_ne d c with rfl | hd
  · exact hc
  · have hsu := hu.same d hd
    have hst := ht.same d hd
    cases d <;> exact Eq.trans hsu (Eq.symm hst)

theorem agreeBut_setA (s : State) (v : Byte) : AgreeBut .a s { s with a := v } :=
  ⟨fun d hd => by cases d with | a => exact absurd rfl hd | _ => rfl, rfl, rfl⟩

theorem agreeBut_setX (s : State) (v : Byte) : AgreeBut .x s { s with x := v } :=
  ⟨fun d hd => by cases d with | x => exact absurd rfl hd | _ => rfl, rfl, rfl⟩

theorem agreeBut_setY (s : State) (v : Byte) : AgreeBut .y s { s with y := v } :=
  ⟨fun d hd => by cases d with | y => exact absurd rfl hd | _ => rfl, rfl, rfl⟩

theorem agreeBut_setP {s : State} {f : Flag} {q : Byte} (hq : ∀ g, g ≠ f → getFlag q g = getFlag s.p g) :
    AgreeBut (.flag f) s { s with p := q } :=
  ⟨fun d hd => by cases d with | flag g => exact hq g fun e => hd (e ▸ rfl) | _ => rfl, rfl, rfl⟩

/-! The frame: what an instruction leaves unchanged. -/

/-- One access to the port, as memory sees it. -/
def BusAccess (bus : Bus) (m n : Memory) : Prop := (∃ a, n = (bus.read m a).2) ∨ ∃ a v, n = bus.write m a v

/-- From `s` to `t` no part changes but those `i` is a writer of, and memory only by accesses to the port. -/
structure Frame (bus : Bus) (i : Instr) (s t : State) : Prop where
  same : ∀ d : Part, ¬ d.WrittenBy i → d.Same s t
  mem : Relation.ReflTransGen (BusAccess bus) s.mem t.mem

theorem Part.same_refl (d : Part) (s : State) : d.Same s s := by cases d <;> rfl

/-- One run from `s`, as a relation: equal states, both within the frame. -/
theorem Frame.respects (bus : Bus) (i : Instr) (s : State) : Respects bus i fun t u => u = t ∧ Frame bus i s t where
  see h d _ := h.1 ▸ d.same_refl _
  setA := fun ⟨he, h⟩ hv hw => ⟨by rw [he, hv],
    fun d hd => by cases d with | a => exact absurd hw hd | _ => exact h.same _ hd, h.mem⟩
  setX := fun ⟨he, h⟩ hv hw => ⟨by rw [he, hv],
    fun d hd => by cases d with | x => exact absurd hw hd | _ => exact h.same _ hd, h.mem⟩
  setY := fun ⟨he, h⟩ hv hw => ⟨by rw [he, hv],
    fun d hd => by cases d with | y => exact absurd hw hd | _ => exact h.same _ hd, h.mem⟩
  setSp := fun ⟨he, h⟩ hv hw => ⟨by rw [he, hv],
    fun d hd => by cases d with | sp => exact absurd hw hd | _ => exact h.same _ hd, h.mem⟩
  setPc := fun ⟨he, h⟩ hv hw => ⟨by rw [he, hv],
    fun d hd => by cases d with | pc => exact absurd hw hd | _ => exact h.same _ hd, h.mem⟩
  halt := fun ⟨he, h⟩ hw => ⟨by rw [he],
    fun d hd => by cases d with | run => exact absurd hw hd | _ => exact h.same _ hd, h.mem⟩
  writeFlag {t u f b c} := fun ⟨he, h⟩ hb hw => by
    refine ⟨by rw [he, hb], fun d hd => ?_, h.mem⟩
    cases d with
    | flag g =>
      have hg : g ≠ f := fun e => hd (e ▸ hw)
      simpa [Part.Same, State.flag, hg] using h.same _ hd
    | _ => exact h.same _ hd
  memRead := fun ⟨he, h⟩ had => by
    subst he had
    exact ⟨rfl, rfl, fun d hd => by cases d <;> exact h.same _ hd, h.mem.tail (.inl ⟨_, rfl⟩)⟩
  memWrite := fun ⟨he, h⟩ had hv => by
    subst he had hv
    exact ⟨rfl, fun d hd => by cases d <;> exact h.same _ hd, h.mem.tail (.inr ⟨_, _, rfl⟩)⟩

/-- Every instruction completes on any bus, within its frame. -/
theorem execute_frame (bus : Bus) (i : Instr) (s : State) : ∃ t, execute bus i s = .next t ∧ Frame bus i s t := by
  obtain ⟨t, _, ht, _, -, hf⟩ := (Frame.respects bus i s).execute ⟨rfl, fun d _ => d.same_refl s, .refl⟩
  exact ⟨t, ht, hf⟩

theorem exec_frame (i : Instr) (s : State) : ∃ t, exec i s = .next t ∧ Frame .plainRam i s t := by
  rw [exec_eq_execute]
  exact execute_frame .plainRam i s

/-- PLP and RTI load P with a pulled status (R179, R203). -/
theorem exec_pulls_status {i : Instr} {s t : State} (hi : i.mnemonic = .plp ∨ i.mnemonic = .rti)
    (h : exec i s = .next t) : ∃ v, t.p = pulledStatus v := by
  rw [exec_eq_execute] at h
  rcases hi with hi | hi <;>
  · rw [execute_of_mnemonic hi] at h
    cases h
    exact ⟨_, rfl⟩

/-- PLP and RTI leave B = 0 and U = 1 (R28, D11). -/
theorem flags_b_u_of_exec {i : Instr} {s t : State} (hi : i.mnemonic = .plp ∨ i.mnemonic = .rti)
    (h : exec i s = .next t) : t.flag .b = false ∧ t.flag .u = true := by
  obtain ⟨v, hv⟩ := exec_pulls_status hi h
  simp [State.flag, hv, getFlag_pulledStatus]

/-! The invariant. -/

/-- Accesses to plain RAM keep memory canonical. -/
theorem wf_of_accesses {m n : Memory} (h : Relation.ReflTransGen (BusAccess .plainRam) m n) (hm : m.wf = true) :
    n.wf = true := by
  induction h with
  | refl => exact hm
  | tail _ ha ih =>
    rcases ha with ⟨_, rfl⟩ | ⟨a, v, rfl⟩
    · exact ih
    · exact Memory.wf_write a v ih

/-- The writers of B and U establish their values, every other instruction leaves them alone. -/
theorem exec_keeps_inv {i : Instr} {s t : State} (hs : s.Inv) (h : exec i s = .next t) : t.Inv := by
  obtain ⟨hm, hu, hb⟩ := hs
  obtain ⟨t', ht', hf⟩ := exec_frame i s
  obtain rfl : t' = t := Host.Outcome.next.inj (ht'.symm.trans h)
  refine ⟨wf_of_accesses hf.mem hm, ?_⟩
  by_cases hi : i.mnemonic = .plp ∨ i.mnemonic = .rti
  · exact (flags_b_u_of_exec hi h).symm
  · have hB : ¬ (Part.flag .b).WrittenBy i := by simpa [Part.WrittenBy, flagWriters] using hi
    have hU : ¬ (Part.flag .u).WrittenBy i := hB
    exact ⟨(hf.same _ hU).trans hu, (hf.same _ hB).trans hb⟩

/-- The fetch and the advance touch neither P nor memory. -/
theorem step_keeps_inv {s t : State} (hs : s.Inv) (h : step s = .next t) : t.Inv := by
  obtain ⟨-, i, u, -, he, rfl⟩ := step_next_inv h
  have hf : s.fetched.Inv := hs
  have hu : u.Inv := exec_keeps_inv hf he
  rw [completed_frame]
  exact hu

/-- Settles O46: the step keeps the invariant through the execute phase, a run by induction on its length. -/
theorem everyStepKeepsTheInvariant : Obligations.EveryStepKeepsTheInvariant := by
  refine ⟨fun _ _ => step_keeps_inv, fun n s t hs h => ?_⟩
  induction h with
  | refl => exact hs
  | tail _ hstep ih => exact step_keeps_inv (ih hs) hstep

/-- Settles O42, from the frame of the instruction. -/
theorem registersChangeOnlyByTheirWriters : Obligations.RegistersChangeOnlyByTheirWriters := by
  intro i s
  obtain ⟨t, ht, hf⟩ := exec_frame i s
  refine ⟨t, ht, fun h => hf.same .a ?_, fun h => hf.same .x ?_, fun h => hf.same .y ?_, fun h => hf.same .sp ?_,
    fun h => hf.same .pc ?_⟩ <;> simp [Part.WrittenBy, h]

/-- Settles O43, from the frame of the instruction and the status byte that PLP and RTI load. -/
theorem flagsChangeOnlyByTheirWriters : Obligations.FlagsChangeOnlyByTheirWriters := by
  intro i s
  obtain ⟨t, ht, hf⟩ := exec_frame i s
  exact ⟨t, ht, fun f h => hf.same (.flag f) h, fun hi => flags_b_u_of_exec hi ht⟩

/-- Settles O44: the two states agree but for the flag, and so do the states after. -/
theorem flagsAreSeenOnlyByTheirReaders : Obligations.FlagsAreSeenOnlyByTheirReaders := by
  intro i f b s hf
  have hs : AgreeBut (.flag f) s { s with p := setFlag s.p f b } := agreeBut_setP fun g hg => by simp [hg]
  obtain ⟨t, u, ht, hu, h⟩ := hs.exec hf
  have hp : ∀ g, g ≠ f → getFlag u.p g = getFlag t.p g := fun g hg => h.same (.flag g) (by simpa using hg)
  exact ⟨t, u, ht, hu, h.eq (agreeBut_setP hp) rfl, hp⟩

/-- Settles O45: the two states agree but for the register, and so do the states after. -/
theorem registersAreSeenOnlyByTheirReaders : Obligations.RegistersAreSeenOnlyByTheirReaders := by
  intro i s v
  refine ⟨fun hr => ?_, fun hr => ?_, fun hr => ?_⟩
  · obtain ⟨t, u, ht, hu, h⟩ := (agreeBut_setA s v).exec (i := i) (by simp [Part.ReadBy, hr])
    exact ⟨t, u, ht, hu, h.eq (agreeBut_setA t u.a) rfl⟩
  · obtain ⟨t, u, ht, hu, h⟩ := (agreeBut_setX s v).exec (i := i) (by simp [Part.ReadBy, hr])
    exact ⟨t, u, ht, hu, h.eq (agreeBut_setX t u.x) rfl⟩
  · obtain ⟨t, u, ht, hu, h⟩ := (agreeBut_setY s v).exec (i := i) (by simp [Part.ReadBy, hr])
    exact ⟨t, u, ht, hu, h.eq (agreeBut_setY t u.y) rfl⟩

/-- Settles O9, by the value of Run. -/
theorem stoppedCoreTakesNoStep : Obligations.StoppedCoreTakesNoStep := by
  intro bus obs s
  exact ⟨fun h => ⟨by simp [stepOn, stepWith, h], step_halted h⟩,
    fun _ h => ⟨by simp [stepOn, stepWith, h], step_fatal h⟩,
    fun h => ⟨by simp [stepOn, stepWith, h], step_poweredUp h⟩⟩

theorem afterReset_p (bus : Bus) (s : State) : (s.afterReset bus).p = Config.pReset := rfl

theorem afterReset_mem (s : State) : (s.afterReset .plainRam).mem = s.mem := rfl

/-- Settles O47: a reset writes P with its reset value and leaves memory alone. -/
theorem resetEstablishesTheInvariant : Obligations.ResetEstablishesTheInvariant := by
  have hu : getFlag Config.pReset .u = true := by decide
  have hb : getFlag Config.pReset .b = false := by decide
  refine ⟨⟨by decide, hu, hb⟩, fun s hr hm => ⟨s.afterReset .plainRam, if_neg hr, ?_⟩⟩
  rw [State.Inv, afterReset_mem, State.flag, State.flag, afterReset_p]
  exact ⟨hm, hu, hb⟩

end Sys2Proof.Machine

/-! The port (20_memory.md): what an instruction's accesses do to memory, in which order, on plain RAM and on any bus. -/

namespace Sys2Proof.Machine

/-! What the port record says of memory. -/

/-- A fact about memory and the port record that every access keeps is an access relation of every instruction. -/
theorem Respects.of_port {bus : Bus} {P : Memory → List Access → Prop} (i : Instr)
    (hr : ∀ m l a, P m l → P (bus.read m a).2 (l ++ [.read a (bus.read m a).1]))
    (hw : ∀ m l a v, P m l → P (bus.write m a v) (l ++ [.write a v])) :
    Respects bus i fun s t => t = s ∧ P s.mem s.port where
  see h d _ := h.1 ▸ d.same_refl _
  setA h hv _ := ⟨by rw [h.1, hv], h.2⟩
  setX h hv _ := ⟨by rw [h.1, hv], h.2⟩
  setY h hv _ := ⟨by rw [h.1, hv], h.2⟩
  setSp h hv _ := ⟨by rw [h.1, hv], h.2⟩
  setPc h hv _ := ⟨by rw [h.1, hv], h.2⟩
  halt h _ := ⟨by rw [h.1], h.2⟩
  writeFlag h hb _ := ⟨by rw [h.1, hb], h.2⟩
  memRead h had := by rw [h.1, had]; exact ⟨rfl, rfl, hr _ _ _ h.2⟩
  memWrite h had hv := by rw [h.1, had, hv]; exact ⟨rfl, hw _ _ _ _ h.2⟩

/-- Every instruction keeps a fact about memory and the port record that every access keeps. -/
theorem execute_keeps_port {bus : Bus} {P : Memory → List Access → Prop} {i : Instr} {s t : State}
    (hr : ∀ m l a, P m l → P (bus.read m a).2 (l ++ [.read a (bus.read m a).1]))
    (hw : ∀ m l a v, P m l → P (bus.write m a v) (l ++ [.write a v]))
    (hs : P s.mem s.port) (h : execute bus i s = .next t) : P t.mem t.port := by
  obtain ⟨t', _, ht', -, -, ht⟩ := (Respects.of_port i hr hw).execute ⟨rfl, hs⟩
  obtain rfl : t' = t := Host.Outcome.next.inj (ht'.symm.trans h)
  exact ht

theorem replay_append (m : Memory) (l l' : List Access) :
    replay m (l ++ l') = (replay m l).bind fun n => replay n l' := by
  induction l generalizing m with
  | nil => rfl
  | cons e l ih =>
    cases e with
    | read a v =>
      simp only [List.cons_append, replay]
      split
      · exact ih m
      · rfl
    | write a v => exact ih _

/-- The record is that of a run on `m` that began with access `e` and left memory `n`. -/
def Recorded (m : Memory) (e : Access) (n : Memory) (l : List Access) : Prop :=
  l.head? = some e ∧ replay m l = some n

/-- One more access of plain RAM on the record: its replay ends in the memory that the access leaves. -/
theorem Recorded.append {m n n' : Memory} {e e' : Access} {l : List Access} (h : Recorded m e n l)
    (he : replay n [e'] = some n') : Recorded m e n' (l ++ [e']) := by
  obtain ⟨hhead, hreplay⟩ := h
  exact ⟨by simp [hhead], by simp [replay_append, hreplay, he]⟩

/-- The execute phase on plain RAM adds to the record what it does to memory (R47, R53). -/
theorem exec_recorded {m : Memory} {e : Access} {i : Instr} {s t : State} (hs : Recorded m e s.mem s.port)
    (h : exec i s = .next t) : Recorded m e t.mem t.port := by
  rw [exec_eq_execute] at h
  exact execute_keeps_port (P := Recorded m e) (fun _ _ _ hl => hl.append (by simp [replay]))
    (fun _ _ _ _ hl => hl.append rfl) hs h

/-- Settles O48: the fetch starts the record, and execute is the only phase after it that accesses memory. -/
theorem stepRecordReplaysOnMemory : Obligations.StepRecordReplaysOnMemory := by
  intro s t h
  obtain ⟨-, i, u, -, he, rfl⟩ := step_next_inv h
  have hf : Recorded s.mem (.read s.pc (s.mem.read s.pc)) s.fetched.mem s.fetched.port :=
    ⟨rfl, by simp [State.fetched, replay]⟩
  have hu := exec_recorded hf he
  rw [completed_frame]
  exact hu

/-! Instructions over an effective address, on any bus (R46). -/

section
variable {bus : Bus} {i : Instr} {s u : State} {ea : Addr}

/-! Operands. -/

/-- The mnemonics that read an operand and store nothing. -/
def operandMnemonics : List Mnemonic := [.lda, .ldx, .ldy, .adc, .sbc, .and, .ora, .eor, .bit, .cmp, .cpx, .cpy]

/-- What operand `v` does to the registers and P (41_load_store_transfer.md, 42_arithmetic_logic.md). -/
def operandEffect (m : Mnemonic) (v : Byte) (s : State) : State :=
  match m with
  | .lda => State.updateZN { s with a := v } v
  | .ldx => State.updateZN { s with x := v } v
  | .ldy => State.updateZN { s with y := v } v
  | .adc => s.addToA v
  | .sbc => s.addToA (sbcOperand v)
  | .and => State.updateZN { s with a := s.a &&& v } (s.a &&& v)
  | .ora => State.updateZN { s with a := s.a ||| v } (s.a ||| v)
  | .eor => State.updateZN { s with a := s.a ^^^ v } (s.a ^^^ v)
  | .bit => { s with p := statusBit s.p s.a v }
  | .cmp => { s with p := statusCompare s.p s.a v }
  | .cpx => { s with p := statusCompare s.p s.x v }
  | .cpy => { s with p := statusCompare s.p s.y v }
  | _ => s

/-- The effect neither sees nor changes memory and the port record. -/
theorem operandEffect_port (mn : Mnemonic) (v : Byte) (s : State) (m : Memory) (l : List Access) :
    operandEffect mn v { s with mem := m, port := l } = { operandEffect mn v s with mem := m, port := l } := by
  cases mn <;> rfl

/-- The handler of an operand-reading mnemonic (R99). -/
theorem executeForm_operand {m : Mnemonic} (h : m ∈ operandMnemonics) (bus : Bus) (op : Byte) (form : OperandForm)
    (s : State) :
    executeForm bus op m form s = withOperand bus op form.mode s fun v s => .next (operandEffect m v s) := by
  fin_cases h <;> rfl

/-- An operand-reading instruction on any bus: after the resolver one read, at the effective address, and the effect of
the byte answered. -/
theorem execute_operand (h : i.mnemonic ∈ operandMnemonics) (hu : resolve bus i.mode s = some (ea, u)) :
    execute bus i s = .next { operandEffect i.mnemonic (bus.read u.mem ea).1 s with
      mem := (bus.read u.mem ea).2, port := u.port ++ [.read ea (bus.read u.mem ea).1] } := by
  rw [execute, executeForm_operand h]
  refine (withOperand_of_resolve hu _).trans ?_
  rw [← operandEffect_port, resolve_frame hu]
  rfl

/-- An operand-reading mnemonic has an address in every form (R98). -/
theorem operand_mode (h : i.mnemonic ∈ operandMnemonics) : i.mode ≠ .noneAddressing :=
  addressed_mode ((by decide : operandMnemonics ⊆ addressedMnemonics) h)

/-! Stores. -/

/-- A store of a register, on any bus: one write at the effective address, no read of it (R99, R113 to R115). -/
theorem execute_store {v : Byte}
    (h : (i.mnemonic = .sta ∧ v = s.a) ∨ (i.mnemonic = .stx ∧ v = s.x) ∨ (i.mnemonic = .sty ∧ v = s.y))
    (hu : resolve bus i.mode s = some (ea, u)) :
    execute bus i s = .next { s with mem := bus.write u.mem ea v, port := u.port ++ [.write ea v] } := by
  rcases h with ⟨hi, rfl⟩ | ⟨hi, rfl⟩ | ⟨hi, rfl⟩ <;> rw [execute_of_mnemonic hi] <;>
  · refine (store_of_resolve hu _).trans ?_
    rw [resolve_frame hu]
    rfl

/-! Read-modify-writes. -/

/-- UpdateZN writes Z and N of the result (R100). -/
theorem flagsWritten_statusZN (p r : Byte) : FlagsWritten p (statusZN p r) (znOf r) := by
  intro f
  cases f <;> simp [getFlag_statusZN, znOf, flagAfter, BitVec.toNat_eq, msb_eq_bit7]

/-- A shift or rotate writes the carry, then Z and N (R160). -/
theorem flagsWritten_carry_statusZN (p r : Byte) (c : Bool) :
    FlagsWritten p (statusZN (setFlag p .c c) r) ((.c, c) :: znOf r) := by
  intro f
  cases f <;> simp [getFlag_statusZN, znOf, flagAfter, BitVec.toNat_eq, msb_eq_bit7]

/-- The carry enters ROL at the bit that the shift cleared. -/
theorem shiftLeft_and_carry (v : Byte) (c : Bool) : v <<< 1 &&& (BitVec.ofBool c).zeroExtend 8 = 0#8 := by
  ext j hj
  by_cases h : j = 0
  · simp [h]
  · simp [BitVec.getElem_setWidth, BitVec.getLsbD_ofBool, h]

/-- The carry enters ROR at the bit that the shift cleared. -/
theorem shiftRight_and_carry (v : Byte) (c : Bool) : v >>> 1 &&& (BitVec.ofBool c).zeroExtend 8 <<< 7 = 0#8 := by
  ext j hj
  by_cases h : j < 7
  · simp [h]
  · obtain rfl : j = 7 := by omega
    simp

/-- ROL's result as a number (R152). -/
theorem rolFn_toNat (v p : Byte) : (rolFn v p).1.toNat = 2 * v.toNat % 256 + (getFlag p .c).toNat := by
  simp only [rolFn]
  rw [← BitVec.add_eq_or_of_and_eq_zero _ _ (shiftLeft_and_carry v _)]
  cases getFlag p .c <;> simp [BitVec.toNat_add, Nat.shiftLeft_eq] <;> omega

/-- ROR's result as a number (R153). -/
theorem rorFn_toNat (v p : Byte) : (rorFn v p).1.toNat = v.toNat / 2 + 128 * (getFlag p .c).toNat := by
  have := v.isLt
  simp only [rorFn]
  rw [← BitVec.add_eq_or_of_and_eq_zero _ _ (shiftRight_and_carry v _)]
  cases getFlag p .c <;> simp [BitVec.toNat_add, Nat.shiftRight_eq_div_pow]
  omega

/-- `f` is the function of a shift or rotate `m`: the result byte as R150 to R153 give it, the bit shifted out in C. -/
def Shifts (m : Mnemonic) (f : ShiftFn) : Prop :=
  ∀ v p, ∃ c, shiftResult m v (getFlag p .c) = some ((f v p).1.toNat, c) ∧ (f v p).2 = setFlag p .c c

theorem shifts_asl : Shifts .asl aslFn := fun v _ =>
  ⟨v.getLsbD 7, by simp [shiftResult, aslFn, Nat.shiftLeft_eq, Nat.mul_comm], rfl⟩

theorem shifts_lsr : Shifts .lsr lsrFn := fun v _ =>
  ⟨v.getLsbD 0, by simp [shiftResult, lsrFn, Nat.shiftRight_eq_div_pow], rfl⟩

theorem shifts_rol : Shifts .rol rolFn := fun v p => ⟨v.getLsbD 7, by rw [rolFn_toNat]; rfl, rfl⟩

theorem shifts_ror : Shifts .ror rorFn := fun v p => ⟨v.getLsbD 0, by rw [rorFn_toNat]; rfl, rfl⟩

/-- `f` is the read-modify-write function of `m`: the byte it writes, and the flags it and UpdateZN leave (R160). -/
def Modifies (m : Mnemonic) (f : ShiftFn) : Prop :=
  ∀ v p, ∃ l, modifyResult m v (getFlag p .c) = some ((f v p).1, l) ∧
    FlagsWritten p (statusZN (f v p).2 (f v p).1) l

/-- The byte a shift or rotate of memory writes, and its flags: the carry, then Z and N. -/
theorem modifyResult_of_shiftResult {m : Mnemonic} {v : Byte} {cin c : Bool} {r : Nat}
    (h : shiftResult m v cin = some (r, c)) :
    modifyResult m v cin = some (BitVec.ofNat 8 r, (.c, c) :: znOf (BitVec.ofNat 8 r)) := by
  unfold modifyResult
  split
  · cases h
  · cases h
  · rw [h]; rfl

theorem Shifts.modifies {m : Mnemonic} {f : ShiftFn} (h : Shifts m f) : Modifies m f := by
  intro v p
  obtain ⟨c, hr, hc⟩ := h v p
  refine ⟨(.c, c) :: znOf (f v p).1, ?_, ?_⟩
  · rw [modifyResult_of_shiftResult hr, BitVec.ofNat_toNat, BitVec.setWidth_eq]
  · rw [hc]
    exact flagsWritten_carry_statusZN p _ c

theorem modifies_inc : Modifies .inc incFn := by
  intro v p
  have hr : BitVec.ofNat 8 ((v.toNat + 1) % 256) = v + 1 := BitVec.eq_of_toNat_eq (by simp [BitVec.toNat_add])
  exact ⟨znOf (v + 1), by simp only [modifyResult, hr]; rfl, flagsWritten_statusZN p _⟩

theorem modifies_dec : Modifies .dec decFn := by
  intro v p
  have hr : BitVec.ofNat 8 ((v.toNat + 255) % 256) = v - 1 :=
    BitVec.eq_of_toNat_eq (by simp [BitVec.toNat_sub, Nat.add_comm])
  exact ⟨znOf (v - 1), by simp only [modifyResult, hr]; rfl, flagsWritten_statusZN p _⟩

/-- The instructions that store the result of a read-modify-write (R46): INC, DEC, and a shift or rotate of memory. -/
theorem modify_cases (h : i.storesToEA = true) (hs : [Mnemonic.sta, .stx, .sty].contains i.mnemonic = false) :
    i.mnemonic ∈ [Mnemonic.inc, .dec] ∨ i.mnemonic ∈ [Mnemonic.asl, .lsr, .rol, .ror] ∧ i.form ≠ .accumulator := by
  simp only [Instr.storesToEA, List.contains_eq_mem, List.mem_cons, List.not_mem_nil, or_false, Bool.or_eq_true,
    Bool.and_eq_true, bne_iff_ne, decide_eq_true_eq, decide_eq_false_iff_not, not_or, ne_eq] at h hs ⊢
  tauto

/-- The handler of such an instruction is the read-modify-write of its mnemonic's function (R160). -/
theorem executeForm_modify {m : Mnemonic} {form : OperandForm}
    (h : m ∈ [Mnemonic.inc, .dec] ∨ m ∈ [Mnemonic.asl, .lsr, .rol, .ror] ∧ form ≠ .accumulator) :
    ∃ f, Modifies m f ∧ ∀ bus op s, executeForm bus op m form s = readModifyWrite bus op form.mode f s := by
  rcases h with h | ⟨h, hform⟩ <;> fin_cases h
  · exact ⟨incFn, modifies_inc, fun _ _ _ => rfl⟩
  · exact ⟨decFn, modifies_dec, fun _ _ _ => rfl⟩
  · exact ⟨aslFn, shifts_asl.modifies, fun _ _ _ => if_neg hform⟩
  · exact ⟨lsrFn, shifts_lsr.modifies, fun _ _ _ => if_neg hform⟩
  · exact ⟨rolFn, shifts_rol.modifies, fun _ _ _ => if_neg hform⟩
  · exact ⟨rorFn, shifts_ror.modifies, fun _ _ _ => if_neg hform⟩

/-- A store instruction has an address (R98). -/
theorem storesToEA_mode (h : i.storesToEA = true) : i.mode ≠ .noneAddressing := by
  revert h; cases i <;> decide

/-- A read-modify-write on any bus: one read and one write at the effective address (R160). -/
theorem execute_modify (h : i.storesToEA = true) (hs : [Mnemonic.sta, .stx, .sty].contains i.mnemonic = false)
    (hu : resolve bus i.mode s = some (ea, u)) :
    ∃ (r q : Byte) (l : List (Flag × Bool)),
      modifyResult i.mnemonic (bus.read u.mem ea).1 (getFlag s.p .c) = some (r, l) ∧
      execute bus i s = .next { s with
        p := q
        mem := bus.write (bus.read u.mem ea).2 ea r
        port := u.port ++ [.read ea (bus.read u.mem ea).1, .write ea r] } ∧
      FlagsWritten s.p q l := by
  obtain ⟨f, hf, he⟩ := executeForm_modify (modify_cases h hs)
  obtain ⟨l, hr, hl⟩ := hf (bus.read u.mem ea).1 s.p
  refine ⟨_, _, l, hr, ?_, hl⟩
  rw [execute, he]
  refine (readModifyWrite_of_resolve hu f).trans ?_
  rw [resolve_frame hu]
  simp [State.memRead, State.memWrite, State.logged, State.updateZN]

/-! Instructions without an access. -/

/-- The accumulator and implied forms but the stack instructions and the returns. -/
def portlessInstrs : List Instr :=
  [.aslAcc, .lsrAcc, .rolAcc, .rorAcc, .tax, .tay, .txa, .tya, .tsx, .txs, .inx, .iny, .dex, .dey] ++
    [.brk, .nop, .clc, .cld, .cli, .clv, .sec, .sed, .sei]

theorem mem_portlessInstrs (h : i.form = .accumulator ∨ (i.form = .implied ∧
    [Mnemonic.pha, .php, .pla, .plp, .rts, .rti].contains i.mnemonic = false)) : i ∈ portlessInstrs := by
  revert h; cases i <;> decide

theorem execute_portless (h : i ∈ portlessInstrs) (bus : Bus) (s : State) :
    ∃ t, execute bus i s = .next t ∧ t.port = s.port ∧ t.mem = s.mem := by
  fin_cases h <;> exact ⟨_, rfl, rfl, rfl⟩

end

/-- Settles O49, by the four kinds of instruction. -/
theorem addressedAccessLists : Obligations.AddressedAccessLists := by
  intro bus i s
  refine ⟨fun h => ?_, fun v h => ?_, fun h hs => ?_, fun h => execute_portless (mem_portlessInstrs h) bus s⟩
  · have hi : i.mnemonic ∈ operandMnemonics := List.contains_iff_mem.1 h
    obtain ⟨ea, u, hu⟩ := resolve_isSome (operand_mode hi) bus s
    exact ⟨ea, u, _, hu, execute_operand hi hu, rfl, rfl⟩
  · have hm : i.mode ≠ .noneAddressing := by
      rcases h with ⟨hi, -⟩ | ⟨hi, -⟩ | ⟨hi, -⟩ <;> exact mode_ne_none hi
    obtain ⟨ea, u, hu⟩ := resolve_isSome hm bus s
    exact ⟨ea, u, hu, execute_store h hu⟩
  · obtain ⟨ea, u, hu⟩ := resolve_isSome (storesToEA_mode h) bus s
    obtain ⟨r, q, l, hr, he, hl⟩ := execute_modify h hs hu
    exact ⟨ea, u, r, q, l, hu, hr, he, hl⟩

/-! Plain RAM. -/

/-- On plain RAM the resolver leaves memory as it is (R88). -/
theorem resolve_plainRam_mem {mode : AddressingMode} {s u : State} {ea : Addr}
    (h : resolve .plainRam mode s = some (ea, u)) : u.mem = s.mem := by
  rw [resolve_plainRam, Option.map_eq_some_iff] at h
  obtain ⟨e, -, he⟩ := h
  rw [Prod.mk.injEq] at he
  rw [← he.2]
  rfl

theorem resolve_of_effectiveAddress {mode : AddressingMode} {s : State} {ea : Addr}
    (h : effectiveAddress mode s = some ea) : ∃ u, resolve .plainRam mode s = some (ea, u) := by
  simpa [effectiveAddress] using h

/-- Settles O58: both runs are the effect of the same byte, which sees neither memory nor the port record. -/
theorem operandInstructionsAgreeOnEveryBus : Obligations.OperandInstructionsAgreeOnEveryBus := by
  intro bus i s plain ea plainEA u h hu hplain hea hbyte
  have hi : i.mnemonic ∈ operandMnemonics := List.contains_iff_mem.1 h
  obtain ⟨w, hw⟩ := resolve_of_effectiveAddress hea
  rw [exec_eq_execute, execute_operand hi hu, execute_operand hi hw, resolve_plainRam_mem hw]
  have heff : operandEffect i.mnemonic (plain.mem.read plainEA) plain =
      { operandEffect i.mnemonic (bus.read u.mem ea).1 s with mem := plain.mem, port := plain.port } := by
    rw [← operandEffect_port, ← hplain, hbyte]
  exact ⟨_, rfl, by simp only [Bus.plainRam_read, heff]⟩

/-- A store on plain RAM (R99). -/
theorem exec_store {i : Instr} {s : State} {ea : Addr} {v : Byte}
    (h : (i.mnemonic = .sta ∧ v = s.a) ∨ (i.mnemonic = .stx ∧ v = s.x) ∨ (i.mnemonic = .sty ∧ v = s.y))
    (hea : effectiveAddress i.mode s = some ea) :
    ∃ l, exec i s = .next { s with mem := s.mem.write ea v, port := l } := by
  obtain ⟨u, hu⟩ := resolve_of_effectiveAddress hea
  rw [exec_eq_execute, execute_store h hu, resolve_plainRam_mem hu]
  exact ⟨_, rfl⟩

/-- The fetch at the address of a store gets the stored byte (R56). -/
theorem fetch_after_store {i : Instr} {s t : State} {ea : Addr} {v : Byte} (ht : exec i s = .next t)
    (h : (i.mnemonic = .sta ∧ v = s.a) ∨ (i.mnemonic = .stx ∧ v = s.x) ∨ (i.mnemonic = .sty ∧ v = s.y))
    (hea : effectiveAddress i.mode s = some ea) : (State.fetch .plainRam { t with pc := ea }).1 = v := by
  obtain ⟨l, hl⟩ := exec_store h hea
  obtain rfl := Host.Outcome.next.inj (ht.symm.trans hl)
  rw [fetch_plainRam, Memory.read_write_same]

/-- Settles O56: the fetch reads memory where the store wrote it. -/
theorem storesAreSeenByTheNextFetch : Obligations.StoresAreSeenByTheNextFetch := by
  intro i s ea hea
  obtain ⟨t, ht, -⟩ := exec_frame i s
  exact ⟨t, ht, fun hi => fetch_after_store ht (.inl ⟨hi, rfl⟩) hea,
    fun hi => fetch_after_store ht (.inr (.inl ⟨hi, rfl⟩)) hea,
    fun hi => fetch_after_store ht (.inr (.inr ⟨hi, rfl⟩)) hea⟩

/-! Stack and control instructions on any bus. -/

theorem joinBytes_eq_ofNat (hi lo : Byte) : joinBytes hi lo = BitVec.ofNat 16 (lo.toNat + 256 * hi.toNat) := by
  apply BitVec.eq_of_toNat_eq
  have := hi.isLt
  have := lo.isLt
  simp
  omega

theorem highByte_eq_ofNat (w : Addr) : highByte w = BitVec.ofNat 8 (w.toNat / 256) :=
  BitVec.eq_of_toNat_eq (by have := w.isLt; simp; omega)

theorem lowByte_eq_ofNat (w : Addr) : lowByte w = BitVec.ofNat 8 (w.toNat % 256) :=
  BitVec.eq_of_toNat_eq (by simp)

theorem getLsbD_joinBytes (hi lo : Byte) (j : Nat) :
    (joinBytes hi lo).getLsbD j = if j < 8 then lo.getLsbD j else hi.getLsbD (j - 8) := by
  exact BitVec.getLsbD_append

/-- A high byte and a low byte under their masks are joined by `|` (R8). -/
theorem mask_or_mask (v w : Addr) : (v &&& 0xFF00#16) ||| (w &&& 0x00FF#16) = joinBytes (highByte v) (lowByte w) := by
  have hhi : 0xFF00#16 = joinBytes (BitVec.allOnes 8) 0#8 := by decide
  have hlo : 0x00FF#16 = joinBytes 0#8 (BitVec.allOnes 8) := by decide
  apply BitVec.eq_of_getLsbD_eq
  intro j hj
  rw [hhi, hlo, BitVec.getLsbD_or, BitVec.getLsbD_and, BitVec.getLsbD_and, getLsbD_joinBytes, getLsbD_joinBytes,
    getLsbD_joinBytes, highByte, lowByte]
  by_cases h : j < 8
  · simp [h, -BitVec.reduceAllOnes]
  · have hlt : j - 8 < 8 := by omega
    have hj' : 8 + (j - 8) = j := by omega
    simp [h, hlt, hj', -BitVec.reduceAllOnes]

/-- JMP indirect takes the high byte from the pointer's own page (R200). -/
theorem indirectHighAddr_eq (ptr : Addr) :
    indirectHighAddr ptr = if ptr.toNat % 256 = 255 then ptr - 0x00FF#16 else ptr + 1 := by
  have := ptr.isLt
  apply BitVec.eq_of_toNat_eq
  rw [indirectHighAddr, mask_or_mask, joinBytes_toNat, highByte_toNat, lowByte_toNat]
  split <;> simp [BitVec.toNat_add, BitVec.toNat_sub] <;> omega

section
variable (bus : Bus) (s : State)

/-- Push on any bus (R171). -/
theorem State.push_eq (v : Byte) :
    s.push bus v = { s with
      sp := s.sp - 1
      mem := bus.write s.mem (stackByte s.sp) v
      port := s.port ++ [.write (stackByte s.sp) v] } := by
  rw [← stackAddr_eq_stackByte]
  rfl

/-- Pop on any bus (R172). -/
theorem State.pop_eq :
    let r := bus.read s.mem (stackByte (s.sp + 1))
    s.pop bus = (r.1, { s with
      sp := s.sp + 1
      mem := r.2
      port := s.port ++ [.read (stackByte (s.sp + 1)) r.1] }) := by
  rw [← stackAddr_eq_stackByte]
  rfl

/-- Push16 on any bus: the high byte first (R173). -/
theorem State.push16_eq (w : Addr) :
    s.push16 bus w = { s with
      sp := s.sp - 2
      mem := bus.write (bus.write s.mem (stackByte s.sp) (highByte w)) (stackByte (s.sp - 1)) (lowByte w)
      port := s.port ++ [.write (stackByte s.sp) (highByte w), .write (stackByte (s.sp - 1)) (lowByte w)] } := by
  simp [State.push16, State.push_eq, BitVec.sub_sub]

/-- Pop16 on any bus: the low byte first (R174). -/
theorem State.pop16_eq :
    let r := bus.read s.mem (stackByte (s.sp + 1))
    let r' := bus.read r.2 (stackByte (s.sp + 2))
    s.pop16 bus = (joinBytes r'.1 r.1, { s with
      sp := s.sp + 2
      mem := r'.2
      port := s.port ++ [.read (stackByte (s.sp + 1)) r.1, .read (stackByte (s.sp + 2)) r'.1] }) := by
  simp [State.pop16, State.pop_eq, BitVec.add_assoc]

/-- A pair of reads on any bus (R43). -/
theorem State.memReadPair_eq (lo hi : Addr) :
    let r := bus.read s.mem lo
    let r' := bus.read r.2 hi
    s.memReadPair bus lo hi = (joinBytes r'.1 r.1, { s with
      mem := r'.2
      port := s.port ++ [.read lo r.1, .read hi r'.1] }) := by
  simp [State.memReadPair, State.memRead, State.logged]

/-- `MemRead(addr, 2)` on any bus (R44). -/
theorem State.memRead16_eq (ad : Addr) :
    let r := bus.read s.mem ad
    let r' := bus.read r.2 (ad + 1)
    s.memRead16 bus ad = (joinBytes r'.1 r.1, { s with
      mem := r'.2
      port := s.port ++ [.read ad r.1, .read (ad + 1) r'.1] }) := State.memReadPair_eq bus s ad (ad + 1)

/-- A branch on any bus: no access when it is not taken (R190, D19). -/
theorem branch_eq (taken : Bool) :
    branch bus taken s = .next (if taken then
      { s with
        pc := s.pc + 1 + BitVec.ofInt 16 (bus.read s.mem s.pc).1.toInt
        mem := (bus.read s.mem s.pc).2
        port := s.port ++ [.read s.pc (bus.read s.mem s.pc).1] }
      else s) := by
  cases taken <;> rfl

/-- A branch instruction branches on its condition (R191 to R198). -/
theorem execute_branch {i : Instr} {taken : Bool} (h : branchCondition i.mnemonic s.p = some taken) :
    execute bus i s = branch bus taken s := by
  cases hi : i.mnemonic <;> rw [hi] at h <;> cases h <;> rw [execute_of_mnemonic hi] <;> rfl

/-! The rules of the stack and jump instructions (R176 to R179, R199 to R203). -/

theorem execute_pha : execute bus .pha s = .next (s.push bus s.a) := rfl

theorem execute_php : execute bus .php s = .next (s.push bus (pushedStatus s.p)) := rfl

theorem execute_pla :
    execute bus .pla s = .next (State.updateZN { (s.pop bus).2 with a := (s.pop bus).1 } (s.pop bus).1) := rfl

theorem execute_plp : execute bus .plp s = .next (s.pullStatus bus) := rfl

theorem execute_rts : execute bus .rts s = jumpTo ((s.pop16 bus).1 + 1, (s.pop16 bus).2) := rfl

theorem execute_rti : execute bus .rti s = jumpTo ((s.pullStatus bus).pop16 bus) := rfl

theorem execute_jsr :
    execute bus .jsr s = jumpTo ((s.push16 bus (s.pc + 1)).memRead16 bus (s.push16 bus (s.pc + 1)).pc) := rfl

theorem execute_jmpAbs : execute bus .jmpAbs s = jumpTo (s.memRead16 bus s.pc) := rfl

theorem execute_jmpInd :
    execute bus .jmpInd s = jumpTo ((s.memRead16 bus s.pc).2.memReadPair bus (s.memRead16 bus s.pc).1
      (indirectHighAddr (s.memRead16 bus s.pc).1)) := rfl

end

/-- Settles O50: the rule of each instruction with the shared operations it is made of. -/
theorem stackAndJumpAccessLists : Obligations.StackAndJumpAccessLists := by
  intro bus s a p word r1 r2 r3 o1 o2
  have hword : ∀ lo hi, joinBytes hi lo = word lo hi := fun lo hi => joinBytes_eq_ofNat hi lo
  have ha : stackByte s.sp = a 0 := by simp [a]
  have hb : stackByte (s.sp - 1) = a 255 := by simp only [a]; congr 1; bv_omega
  refine ⟨?_, ?_, ?_, ?_, ?_, ?_, ?_, ?_, ?_, ?_⟩
  · rw [execute_pha, State.push_eq, ha]
  · rw [execute_php, State.push_eq, ha]; rfl
  · rw [execute_pla, State.pop_eq]
    exact ⟨_, rfl, flagsWritten_statusZN _ _⟩
  · rw [execute_plp, State.pullStatus, State.pop_eq]; rfl
  · rw [execute_rts, State.pop16_eq]
    simp only [hword]; rfl
  · rw [execute_rti, State.pullStatus, State.pop_eq, State.pop16_eq]
    have h2 : s.sp + 1 + 1 = s.sp + 2 := BitVec.add_assoc ..
    have h3 : s.sp + 1 + 2 = s.sp + 3 := BitVec.add_assoc ..
    simp only [hword, h2, h3, List.append_assoc]; rfl
  · intro hi lo j1 j2
    have hhi : highByte (s.pc + 1) = hi := highByte_eq_ofNat _
    have hlo : lowByte (s.pc + 1) = lo := lowByte_eq_ofNat _
    rw [execute_jsr, State.push16_eq, State.memRead16_eq]
    simp only [hword, ha, hb, hhi, hlo, List.append_assoc]; rfl
  · rw [execute_jmpAbs, State.memRead16_eq]
    simp only [hword]; rfl
  · intro ptr hiAddr q1 q2
    have hhi : indirectHighAddr (word (bus.read s.mem s.pc).1 (bus.read (bus.read s.mem s.pc).2 (s.pc + 1)).1) =
        hiAddr := indirectHighAddr_eq ptr
    rw [execute_jmpInd, State.memRead16_eq, State.memReadPair_eq]
    simp only [hword, hhi, List.append_assoc]; rfl
  · intro i taken h
    rw [execute_branch bus s h, branch_eq]

/-! The memory frame on plain RAM (R46, R47). -/

section
variable {i : Instr} {s : State}

/-- A form that stores writes one byte, at its effective address, and beside it no register but P. -/
theorem exec_storesToEA {ea : Addr} (h : i.storesToEA = true) (hea : effectiveAddress i.mode s = some ea) :
    ∃ v q l, exec i s = .next { s with p := q, mem := s.mem.write ea v, port := l } := by
  obtain ⟨u, hu⟩ := resolve_of_effectiveAddress hea
  rw [exec_eq_execute, ← resolve_plainRam_mem hu]
  cases hs : [Mnemonic.sta, .stx, .sty].contains i.mnemonic with
  | false =>
    obtain ⟨r, q, l, -, he, -⟩ := execute_modify h hs hu
    exact ⟨r, q, _, he⟩
  | true =>
    have hi : i.mnemonic = .sta ∨ i.mnemonic = .stx ∨ i.mnemonic = .sty := by simpa using hs
    rcases hi with hi | hi | hi
    · exact ⟨_, _, _, execute_store (.inl ⟨hi, rfl⟩) hu⟩
    · exact ⟨_, _, _, execute_store (.inr (.inl ⟨hi, rfl⟩)) hu⟩
    · exact ⟨_, _, _, execute_store (.inr (.inr ⟨hi, rfl⟩)) hu⟩

/-- PHA on plain RAM (R176). -/
theorem exec_pha : exec .pha s = .next { s with
    sp := s.sp - 1
    mem := s.mem.write (stackByte s.sp) s.a
    port := s.port ++ [.write (stackByte s.sp) s.a] } := by
  rw [exec_eq_execute, execute_pha, State.push_eq, Bus.plainRam_write]

/-- PHP on plain RAM (R177). -/
theorem exec_php : exec .php s = .next { s with
    sp := s.sp - 1
    mem := s.mem.write (stackByte s.sp) (pushedStatus s.p)
    port := s.port ++ [.write (stackByte s.sp) (pushedStatus s.p)] } := by
  rw [exec_eq_execute, execute_php, State.push_eq, Bus.plainRam_write]

/-- JSR on plain RAM writes SP, PC and its two stack bytes (R201). -/
theorem exec_jsr_frame : ∃ pc v w l, exec .jsr s = .next { s with
    sp := s.sp - 2
    pc := pc
    mem := (s.mem.write (stackByte s.sp) v).write (stackByte (s.sp - 1)) w
    port := l } := by
  rw [exec_eq_execute, execute_jsr, State.memRead16_plainRam, State.push16_eq]
  exact ⟨_, _, _, _, rfl⟩

/-- Whether a mnemonic has a branch condition does not depend on P. -/
theorem branchCondition_isSome {m : Mnemonic} (h : (branchCondition m 0).isSome = true) (p : Byte) :
    ∃ taken, branchCondition m p = some taken := by
  revert h; cases m <;> simp [branchCondition]

/-- The instructions that read memory elsewhere than at an effective address, but the branches and JSR. -/
def pullsAndJumps : List Instr := [.pla, .plp, .rts, .rti, .jmpAbs, .jmpInd]

/-- The kinds of instruction that neither store nor push. -/
theorem no_write_cases (hs : i.storesToEA = false) (hp : i.pushes = false) :
    i.mnemonic ∈ operandMnemonics ∨ i ∈ portlessInstrs ∨ i ∈ pullsAndJumps ∨
      (branchCondition i.mnemonic 0).isSome = true := by
  revert hs hp; cases i <;> decide

/-- An instruction that neither stores nor pushes leaves memory as it was. -/
theorem exec_no_write (s : State) (hs : i.storesToEA = false) (hp : i.pushes = false) :
    ∃ t, exec i s = .next t ∧ t.mem = s.mem := by
  rw [exec_eq_execute]
  rcases no_write_cases hs hp with hi | hi | hi | hi
  · obtain ⟨ea, u, hu⟩ := resolve_isSome (operand_mode hi) .plainRam s
    have hm : u.mem = s.mem := resolve_plainRam_mem hu
    exact ⟨_, execute_operand hi hu, hm⟩
  · obtain ⟨t, ht, -, hm⟩ := execute_portless hi .plainRam s
    exact ⟨t, ht, hm⟩
  · fin_cases hi <;> exact ⟨_, rfl, rfl⟩
  · obtain ⟨taken, ht⟩ := branchCondition_isSome hi s.p
    rw [execute_branch .plainRam s ht]
    cases taken <;> exact ⟨_, rfl, rfl⟩

end

theorem mem_pushers {i : Instr} (h : i.pushes = true) : i ∈ [Instr.pha, .php, .jsr] := by
  revert h; cases i <;> decide

/-- Settles O41, by the memory that each kind of instruction leaves. -/
theorem memoryChangesOnlyWhereStored : Obligations.MemoryChangesOnlyWhereStored := by
  intro i s
  refine ⟨fun h => ?_, fun h => ?_, fun hs hp => ?_⟩
  · obtain ⟨ea, u, hu⟩ := resolve_isSome (storesToEA_mode h) .plainRam s
    have hea : effectiveAddress i.mode s = some ea := by simp [effectiveAddress, hu]
    obtain ⟨v, q, l, ht⟩ := exec_storesToEA h hea
    exact ⟨ea, _, hea, ht, rfl, fun b hb => Memory.read_write_other _ _ _ _ hb⟩
  · have hi := mem_pushers h
    fin_cases hi
    · exact ⟨_, exec_pha, rfl, fun b hb _ => Memory.read_write_other _ _ _ _ hb⟩
    · exact ⟨_, exec_php, rfl, fun b hb _ => Memory.read_write_other _ _ _ _ hb⟩
    · obtain ⟨pc, v, w, l, ht⟩ := exec_jsr_frame (s := s)
      refine ⟨_, ht, rfl, fun b hb hb' => ?_⟩
      rw [Memory.read_write_other _ _ _ _ (hb' rfl), Memory.read_write_other _ _ _ _ hb]
  · obtain ⟨t, ht, hm⟩ := exec_no_write s hs hp
    exact ⟨t, ht, fun b => by rw [hm]⟩

end Sys2Proof.Machine

/-! The encoding (30_encoding.md): what the decoder answers, one lemma for each of its four cases, with its inversion,
and from these that decoder and encoder undo each other. -/

namespace Sys2Proof

open Machine

/-! What the decoder answers (R61, R65). -/

section
variable {b : Byte} {bytes operand rest : List Byte} {i : Instr} {c : MachineCode}

theorem wellFormed_iff : c.wellFormed = true ↔ c.operand.length = c.instr.length - 1 := beq_iff_eq

theorem decode_nil : decode [] = .error .noBytes := rfl

theorem decode_undefined (h : decodeOpcode b = none) : decode (b :: rest) = .error (.unknownOpcode b) := by
  simp [decode, h]

theorem decode_operand_cut (h : operand.length < i.length - 1) :
    decode (i.opcode :: operand) = .error (.missingOperand i) := by
  simp [decode, decodeOpcode_opcode, h]

/-- The operand bytes are as many as the length of the instruction says, and the rest is left over. -/
theorem decode_encode (h : c.wellFormed = true) (rest : List Byte) :
    decode (encode c ++ rest) = .ok (c, rest) := by
  have hlen := wellFormed_iff.mp h
  simp [decode, encode, decodeOpcode_opcode, ← hlen]

/-- Inversion: bytes decode only in the last case, an opcode byte with its whole operand behind it. -/
theorem decode_ok_inv (h : decode bytes = .ok (c, rest)) :
    ∃ op tail, bytes = op :: tail ∧ decodeOpcode op = some c.instr ∧ c.instr.length - 1 ≤ tail.length ∧
      c.operand = tail.take (c.instr.length - 1) ∧ rest = tail.drop (c.instr.length - 1) := by
  cases bytes with
  | nil => simp [decode_nil] at h
  | cons op tail =>
    cases hd : decodeOpcode op with
    | none => simp [decode_undefined hd] at h
    | some i =>
      by_cases hlt : tail.length < i.length - 1
      · simp [decode, hd, hlt] at h
      · simp only [decode, hd, hlt, if_false, Except.ok.injEq, Prod.mk.injEq] at h
        obtain ⟨rfl, rfl⟩ := h
        exact ⟨op, tail, rfl, hd, not_lt.mp hlt, rfl, rfl⟩

end

/-- Settles O1: the encoder's opcode byte decodes to its instruction, and the length splits operand from rest. -/
theorem decodeInvertsEncode : Obligations.DecodeInvertsEncode := fun _ rest h => decode_encode h rest

/-- Settles O2: the opcode byte is the one the encoder writes, and operand and rest are the bytes after it, cut in two. -/
theorem decodedBytesAreTheEncoding : Obligations.DecodedBytesAreTheEncoding := by
  intro bytes rest c h
  obtain ⟨op, tail, rfl, hd, hle, hop, rfl⟩ := decode_ok_inv h
  have hwf : c.wellFormed = true := by rw [wellFormed_iff, hop, List.length_take_of_le hle]
  have hbytes : encode c ++ tail.drop (c.instr.length - 1) = op :: tail := by
    rw [encode, hop, opcode_of_decodeOpcode hd, List.cons_append, List.take_append_drop]
  exact ⟨hwf, hbytes⟩

/-- Settles O3, by the three cases in which the decoder answers an error. -/
theorem bytesThatDoNotDecodeAreRejectedByName : Obligations.BytesThatDoNotDecodeAreRejectedByName :=
  ⟨decode_nil, fun _ _ => decode_undefined, fun _ _ => decode_operand_cut⟩

/-! The opcode map as a whole (R62, R64, R65). -/

/-- The bytes with an empty cell in the opcode map, in numerical order. -/
def emptyCells : List Byte := ((List.range 256).map (BitVec.ofNat 8)).filter fun b => (decodeOpcode b).isNone

theorem mem_emptyCells {b : Byte} : b ∈ emptyCells ↔ decodeOpcode b = none := by
  have hb : b ∈ (List.range 256).map (BitVec.ofNat 8) := List.mem_map.mpr ⟨b.toNat, List.mem_range.mpr b.isLt, by simp⟩
  rw [emptyCells, List.mem_filter, and_iff_right hb, Option.isNone_iff_eq_none]

/-- Settles O4: the listed bytes are the map's empty cells, read off in order; the step at one of them is the fatal
condition of R230. -/
theorem theUndefinedBytesAreFatal : Obligations.TheUndefinedBytesAreFatal := by
  unfold Obligations.TheUndefinedBytesAreFatal
  intro undefinedBytes
  have hlist : undefinedBytes = emptyCells := by decide +kernel
  have hmem : ∀ b : Byte, decodeOpcode b = none ↔ b ∈ undefinedBytes := fun b => by rw [hlist, mem_emptyCells]
  exact ⟨rfl, hmem, fun s hr hb => ⟨_, step_undefined hr ((hmem _).mpr hb)⟩⟩

/-- Settles O5: the counts from the opcode map, the length of a mode row by row of the descriptor table. -/
theorem formatLengthsAndCounts : Obligations.FormatLengthsAndCounts := by
  refine ⟨by decide +kernel, by decide +kernel, by decide +kernel, fun i => ?_⟩
  cases i <;> rfl

/-- An instruction with as many operand bytes as it takes, and nothing after them. -/
theorem decode_bytes (i : Instr) (operand : List Byte) (h : MachineCode.wellFormed ⟨i, operand⟩ = true) :
    decode (i.opcode :: operand) = .ok (⟨i, operand⟩, []) := by
  simpa [encode] using decode_encode h []

/-- Settles O6: each byte string is the encoding of a well-formed instruction. -/
theorem exampleWordsDecode : Obligations.ExampleWordsDecode :=
  ⟨decode_bytes .inx _ rfl, decode_bytes .aslAcc _ rfl, decode_bytes .ldaImm _ rfl, decode_bytes .ldaZp _ rfl,
    decode_bytes .ldaZpX _ rfl, decode_bytes .ldxZpY _ rfl, decode_bytes .ldaAbs _ rfl, decode_bytes .ldaAbsX _ rfl,
    decode_bytes .ldaAbsY _ rfl, decode_bytes .ldaIndX _ rfl, decode_bytes .ldaIndY _ rfl, decode_bytes .bne _ rfl,
    decode_bytes .jmpInd _ rfl, decode_bytes .jsr _ rfl, decode_bytes .brk _ rfl⟩

end Sys2Proof

/-! Dispatch and addressing (40_dispatch_and_addressing.md): what a step does on any bus, the resolver's addresses and
reads, the fatal condition of an instruction without an address, and the result byte that Z and N follow. -/

namespace Sys2Proof.Machine

/-! The step (R80 to R85). -/

/-- A running core on any bus whose instruction completes: the phases after execute (R80). -/
theorem stepOn_defined {bus : Bus} {s t : State} {i : Instr} (obs : Observer) (hr : s.run = .running)
    (hd : decodeOpcode (s.fetch bus).1 = some i) (ht : execute bus i (s.fetch bus).2 = .next t) :
    stepOn bus obs s = .next (t.complete bus obs i.length (s.pc + 1)) := by
  simp only [stepOn, stepWith, hr, runInstruction, hd, ht]
  rfl

/-- A running core on any bus whose fetched byte is undefined (R82, R230). -/
theorem stepOn_undefined {bus : Bus} {s : State} (obs : Observer) (hr : s.run = .running)
    (hd : decodeOpcode (s.fetch bus).1 = none) :
    stepOn bus obs s = raiseFatal (.unknownOpcode (s.fetch bus).1 s.pc) (s.fetch bus).2 := by
  simp only [stepOn, stepWith, hr, runInstruction, hd]

/-- A running core whose byte at PC is an opcode completes its instruction, within the instruction's frame (R234). -/
theorem step_completes {s : State} {i : Instr} (hr : s.run = .running)
    (hd : decodeOpcode (s.mem.read s.pc) = some i) :
    ∃ u, step s = .next (u.completed i.length (s.pc + 1)) ∧ Frame .plainRam i s.fetched u := by
  obtain ⟨u, hu, hf⟩ := exec_frame i s.fetched
  exact ⟨u, by rw [step_defined hr hd, hu], hf⟩

/-- An instruction that left PC and Run alone ends past its operand bytes (R84). -/
theorem completed_of_unchanged {u : State} {i : Instr} {pc : Addr} (hpc : u.pc = pc + 1) (hrun : u.run = .running) :
    u.completed i.length (pc + 1) = { u with pc := pc + BitVec.ofNat 16 i.length } := by
  have hlen : pc + 1 + BitVec.ofNat 16 (i.length - 1) = pc + BitVec.ofNat 16 i.length := by
    obtain ⟨hpos, -⟩ := length_bounds i
    rw [BitVec.add_assoc, show (1 : Addr) = BitVec.ofNat 16 1 from rfl, ← BitVec.ofNat_add, Nat.add_sub_cancel' hpos]
  rw [State.completed, State.advance, hpc, hlen, hrun]
  simp

/-- Settles O7: the opcode byte is the first of the bytes at PC, and the advance compares with the PC after the fetch. -/
theorem stepRunsDecodedInstruction : Obligations.StepRunsDecodedInstruction := by
  intro s c rest hr hdec
  obtain ⟨op, tail, hbytes, hd, -⟩ := decode_ok_inv hdec
  obtain ⟨rfl, -⟩ := List.cons.inj hbytes
  rw [step_defined hr hd]
  cases exec c.instr s.fetched <;> rfl

/-- Settles O11: the hook is the last phase of a completed instruction, and its actions write what they name. -/
theorem observerRunsOncePerCompletedInstruction : Obligations.ObserverRunsOncePerCompletedInstruction :=
  ⟨fun _ obs _ _ _ hr hd ht => stepOn_defined obs hr hd ht, fun _ obs _ hr hd => stepOn_undefined obs hr hd,
    observe_identity, fun _ _ _ _ _ _ _ _ _ _ => rfl⟩

/-- Settles O13: an opcode's step completes, and an undefined byte's step is the fatal condition of R230. -/
theorem executeOnPlainRamIsExec : Obligations.ExecuteOnPlainRamIsExec := by
  refine ⟨exec_eq_execute, fun s hr => ?_⟩
  cases hd : decodeOpcode (s.mem.read s.pc) with
  | none => simp [step_undefined hr hd, raiseFatal, IsFatal]
  | some i =>
    obtain ⟨u, hu, -⟩ := step_completes hr hd
    simp [hu, IsFatal]

/-- Settles O14: the instruction's frame holds PC and Run, so the advance skips the operand bytes. -/
theorem otherInstructionsAdvanceByTheirLength : Obligations.OtherInstructionsAdvanceByTheirLength := by
  intro s i hr hd hi
  obtain ⟨u, hu, hf⟩ := step_completes hr hd
  have hpc : u.pc = s.pc + 1 := hf.same .pc (by simp [Part.WrittenBy, hi])
  have hbrk : i.mnemonic ≠ .brk := fun h => by simp [h, Mnemonic.isControl] at hi
  have hrun : u.run = .running := (hf.same .run hbrk).trans hr
  exact ⟨_, hu, by rw [completed_of_unchanged hpc hrun], by rw [completed_of_unchanged hpc hrun, hrun]⟩

/-! The resolver (R88 to R98). -/

/-- A zero-page address as a number (R90). -/
theorem zext16_eq_ofNat_mod (b : Byte) : zext16 b = BitVec.ofNat 16 (b.toNat % 256) := by
  rw [Nat.mod_eq_of_lt b.isLt, zext16_eq_ofNat]

/-- An indexed zero-page address wraps in page 0 (R91, R92). -/
theorem zext16_add_eq_ofNat (b c : Byte) : zext16 (b + c) = BitVec.ofNat 16 ((b.toNat + c.toNat) % 256) := by
  rw [zext16_eq_ofNat, BitVec.toNat_add]

/-- The second byte of a zero-page pointer wraps in page 0 (R96, R97, D12). -/
theorem zext16_succ_eq_ofNat (b : Byte) : zext16 (b + 1) = BitVec.ofNat 16 ((b.toNat + 1) % 256) :=
  zext16_add_eq_ofNat b 1

/-- The second byte of an indexed zero-page pointer wraps in page 0 (R96, D12). -/
theorem zext16_add_succ_eq_ofNat (b c : Byte) :
    zext16 (b + c + 1) = BitVec.ofNat 16 ((b.toNat + c.toNat + 1) % 256) := by
  rw [zext16_succ_eq_ofNat, BitVec.toNat_add, Nat.mod_add_mod]

/-- An index added to a word wraps in 16 bits (R94, R95). -/
theorem add_zext16_eq_ofNat (w : Addr) (b : Byte) : w + zext16 b = BitVec.ofNat 16 (w.toNat + b.toNat) :=
  BitVec.eq_of_toNat_eq (by simp [BitVec.toNat_add])

/-- Settles O15, by the address and the reads of each mode on plain RAM. -/
theorem resolverAddressesAndReads : Obligations.ResolverAddressesAndReads := by
  intro s p b saw zp z
  have hb : zext16 b = zp b.toNat := zext16_eq_ofNat_mod b
  have hb1 : zext16 (b + 1) = zp (b.toNat + 1) := zext16_succ_eq_ofNat b
  have hbx : zext16 (b + s.x) = zp z := zext16_add_eq_ofNat b s.x
  have hbx1 : zext16 (b + s.x + 1) = zp (z + 1) := zext16_add_succ_eq_ofNat b s.x
  have hby : zext16 (b + s.y) = zp (b.toNat + s.y.toNat) := zext16_add_eq_ofNat b s.y
  refine ⟨rfl, ?_, ?_, ?_, ?_, ?_, ?_, ?_, ?_⟩ <;> rw [resolve_plainRam]
  · rw [← hb]; rfl
  · rw [← hbx]; rfl
  · rw [← hby]; rfl
  · rw [wordAt_eq_joinBytes]; rfl
  · rw [← add_zext16_eq_ofNat, wordAt_eq_joinBytes]; rfl
  · rw [← add_zext16_eq_ofNat, wordAt_eq_joinBytes]; rfl
  · rw [← hbx1, ← hbx, wordAt_eq_joinBytes]; rfl
  · rw [← add_zext16_eq_ofNat, ← hb1, ← hb, wordAt_eq_joinBytes]; rfl

/-- `t` has `n` accesses more than `s` on record, all of them reads. -/
def AddsReads (n : Nat) (s t : State) : Prop :=
  ∃ l : List Access, t.port = s.port ++ l ∧ l.all Access.isRead = true ∧ l.length = n

theorem AddsReads.refl (s : State) : AddsReads 0 s s := ⟨[], by simp, rfl, rfl⟩

theorem AddsReads.memRead {bus : Bus} {n : Nat} {s t : State} (h : AddsReads n s t) (a : Addr) :
    AddsReads (n + 1) s (t.memRead bus a).2 := by
  obtain ⟨l, hl, hall, hlen⟩ := h
  exact ⟨l ++ [.read a (bus.read t.mem a).1], by simp [hl], by simp [hall, Access.isRead], by simp [hlen]⟩

/-- The resolver on any bus: none to three reads and no write (R88). -/
theorem resolve_addsReads {bus : Bus} {mode : AddressingMode} {s t : State} {ea : Addr}
    (h : resolve bus mode s = some (ea, t)) : ∃ n ≤ 3, AddsReads n s t := by
  have h0 := AddsReads.refl s
  have ht : (resolve bus mode s).map Prod.snd = some t := by rw [h]; rfl
  cases mode <;> cases ht
  case immediate => exact ⟨0, by decide, h0⟩
  case zeroPage | zeroPageX | zeroPageY => exact ⟨1, by decide, h0.memRead _⟩
  case absolute | absoluteX | absoluteY => exact ⟨2, by decide, (h0.memRead _).memRead _⟩
  case indirectX | indirectY => exact ⟨3, by decide, ((h0.memRead _).memRead _).memRead _⟩

/-- Asking for the address of NoneAddressing is the fatal condition of R232. -/
theorem withEA_noneAddressing (bus : Bus) (op : Byte) (s : State) (k : Addr → State → Result) :
    withEA bus op .noneAddressing s k = raiseFatal (noAddressingInfo op .noneAddressing s) s := rfl

/-- Settles O16, by the reads of the resolver and its only mode without an address. -/
theorem resolverNeverWrites : Obligations.ResolverNeverWrites := by
  refine ⟨fun bus mode s t ea h => ⟨resolve_frame h, ?_⟩, fun bus mode s => ⟨fun h => ?_, ?_⟩, withEA_noneAddressing⟩
  · obtain ⟨n, hn, l, hl, hall, rfl⟩ := resolve_addsReads h
    exact ⟨l, hl, hall, hn⟩
  · by_contra hm
    obtain ⟨ea, t, ht⟩ := resolve_isSome hm bus s
    simp [h] at ht
  · rintro rfl
    rfl

/-- The handler of an addressed mnemonic, or of a shift or rotate of memory, first asks for the effective address. -/
theorem executeForm_addressed {m : Mnemonic} {form : OperandForm}
    (h : m ∈ addressedMnemonics ∨ m ∈ [Mnemonic.asl, .lsr, .rol, .ror] ∧ form ≠ .accumulator)
    (bus : Bus) (op : Byte) (s : State) : ∃ k, executeForm bus op m form s = withEA bus op form.mode s k := by
  rcases h with h | ⟨h, hform⟩
  · fin_cases h <;> exact ⟨_, rfl⟩
  · fin_cases h <;> exact ⟨_, if_neg hform⟩

/-- Settles O57: PC is one past the opcode right after the fetch, and the byte that selects an instruction is its opcode. -/
theorem misWiredOpcodeFailsLoudly : Obligations.MisWiredOpcodeFailsLoudly := by
  refine ⟨fun bus m form s hform hm => ?_, fun bus op i s hd => by rw [execute, opcode_of_decodeOpcode hd]⟩
  intro op info
  have hm' : m ∈ addressedMnemonics ∨ m ∈ [Mnemonic.asl, .lsr, .rol, .ror] ∧ form ≠ .accumulator := by
    simpa only [List.contains_iff_mem, addressedMnemonics] using hm
  obtain ⟨k, hk⟩ := executeForm_addressed hm' bus op (s.fetch bus).2
  have hpc : (s.fetch bus).2.pc - 1 = s.pc := BitVec.add_sub_cancel s.pc 1
  rw [hk, hform, withEA_noneAddressing, noAddressingInfo, hpc]
  rfl

/-! Z and N (R100). -/

/-- Z and N of status byte `p` are those of byte `r`. -/
def HoldsZN (p r : Byte) : Prop := getFlag p .z = decide (r.toNat = 0) ∧ getFlag p .n = r.getLsbD 7

theorem holdsZN_statusZN (p r : Byte) : HoldsZN (statusZN p r) r :=
  ⟨flagsWritten_statusZN p r .z, flagsWritten_statusZN p r .n⟩

/-- The registers that hold the result byte of an instruction. -/
inductive DataRegister where
  | a | x | y

namespace DataRegister

/-- What the register holds. -/
def value : DataRegister → State → Byte
  | .a => State.a
  | .x => State.x
  | .y => State.y

/-- The writers of R22. -/
def writtenBy (i : Instr) : DataRegister → Bool
  | .a => i.writesA
  | .x => i.writesX
  | .y => i.writesY

/-- The operand-reading mnemonics that write the register. -/
def operandWriters : DataRegister → List Mnemonic
  | .a => [.lda, .adc, .sbc, .and, .ora, .eor]
  | .x => [.ldx]
  | .y => [.ldy]

/-- The instructions that write the register without reading an operand. -/
def otherWriters : DataRegister → List Instr
  | .a => [.aslAcc, .lsrAcc, .rolAcc, .rorAcc, .txa, .tya, .pla]
  | .x => [.tax, .tsx, .inx, .dex]
  | .y => [.tay, .iny, .dey]

theorem writer_cases {r : DataRegister} {i : Instr} (h : r.writtenBy i = true) :
    i.mnemonic ∈ r.operandWriters ∨ i ∈ r.otherWriters := by
  revert h; cases r <;> cases i <;> decide

theorem operandWriters_subset (r : DataRegister) : r.operandWriters ⊆ operandMnemonics := by
  cases r <;> decide

/-- The effect of an operand on a register ends in UpdateZN of the register. -/
theorem holdsZN_operandEffect {r : DataRegister} {m : Mnemonic} (h : m ∈ r.operandWriters) (v : Byte) (s : State) :
    HoldsZN (operandEffect m v s).p (r.value (operandEffect m v s)) := by
  cases r <;> fin_cases h <;> exact holdsZN_statusZN _ _

/-- Every other write of a register ends in UpdateZN of the register too. -/
theorem holdsZN_otherWriter {r : DataRegister} {i : Instr} {s t : State} (h : i ∈ r.otherWriters)
    (ht : exec i s = .next t) : HoldsZN t.p (r.value t) := by
  cases r <;> fin_cases h <;> cases ht <;> exact holdsZN_statusZN _ _

theorem value_port (r : DataRegister) (s : State) (m : Memory) (l : List Access) :
    r.value { s with mem := m, port := l } = r.value s := by
  cases r <;> rfl

end DataRegister

section
variable {i : Instr} {s t : State} {ea : Addr}

/-- An operand-reading instruction on plain RAM: the effect of the byte at the effective address. -/
theorem exec_operand (hi : i.mnemonic ∈ operandMnemonics) (hea : effectiveAddress i.mode s = some ea) :
    ∃ l, exec i s = .next { operandEffect i.mnemonic (s.mem.read ea) s with mem := s.mem, port := l } := by
  obtain ⟨u, hu⟩ := resolve_of_effectiveAddress hea
  rw [exec_eq_execute, execute_operand hi hu, resolve_plainRam_mem hu]
  exact ⟨_, rfl⟩

/-- The result byte in a register. -/
theorem holdsZN_of_writtenBy {r : DataRegister} (h : r.writtenBy i = true) (ht : exec i s = .next t) :
    HoldsZN t.p (r.value t) := by
  rcases r.writer_cases h with hi | hi
  · have hop := r.operandWriters_subset hi
    obtain ⟨ea, u, hu⟩ := resolve_isSome (operand_mode hop) .plainRam s
    obtain ⟨l, hl⟩ := exec_operand (s := s) (ea := ea) hop (by simp [effectiveAddress, hu])
    obtain rfl := Host.Outcome.next.inj (hl.symm.trans ht)
    rw [r.value_port]
    exact r.holdsZN_operandEffect hi _ s
  · exact r.holdsZN_otherWriter hi ht

/-- The result byte in memory. -/
theorem holdsZN_of_modify (h : i.storesToEA = true) (hs : [Mnemonic.sta, .stx, .sty].contains i.mnemonic = false)
    (hea : effectiveAddress i.mode s = some ea) (ht : exec i s = .next t) : HoldsZN t.p (t.mem.read ea) := by
  obtain ⟨u, hu⟩ := resolve_of_effectiveAddress hea
  obtain ⟨f, -, hf⟩ := executeForm_modify (modify_cases h hs)
  have hrmw := readModifyWrite_of_resolve (op := i.opcode) hu f
  rw [exec_eq_execute, execute, hf] at ht
  obtain rfl := Host.Outcome.next.inj (hrmw.symm.trans ht)
  rw [State.updateZN_mem, State.memWrite_mem, Bus.plainRam_write, Memory.read_write_same]
  exact holdsZN_statusZN _ _

/-- The difference of a compare. -/
theorem holdsZN_of_compare {v : Byte}
    (h : (i.mnemonic = .cmp ∧ v = s.a) ∨ (i.mnemonic = .cpx ∧ v = s.x) ∨ (i.mnemonic = .cpy ∧ v = s.y))
    (hea : effectiveAddress i.mode s = some ea) (ht : exec i s = .next t) : HoldsZN t.p (v - s.mem.read ea) := by
  rcases h with ⟨hi, rfl⟩ | ⟨hi, rfl⟩ | ⟨hi, rfl⟩ <;>
  · obtain ⟨l, hl⟩ := exec_operand (by simp [hi, operandMnemonics]) hea
    obtain rfl := Host.Outcome.next.inj (hl.symm.trans ht)
    rw [hi]
    exact holdsZN_statusZN _ _

end

/-- Settles O17: each result byte by its kind of instruction, the non-callers by the frame. -/
theorem zAndNFollowTheResultByte : Obligations.ZAndNFollowTheResultByte := by
  refine ⟨fun s r => ⟨flagsWritten_statusZN s.p r, rfl⟩, fun i s => ?_⟩
  obtain ⟨t, ht, hf⟩ := exec_frame i s
  exact ⟨t, ht, fun h => holdsZN_of_writtenBy (r := .a) h ht, fun h => holdsZN_of_writtenBy (r := .x) h ht,
    fun h => holdsZN_of_writtenBy (r := .y) h ht, fun ea h hs hea => holdsZN_of_modify h hs hea ht,
    fun ea hea => ⟨fun hi => holdsZN_of_compare (.inl ⟨hi, rfl⟩) hea ht,
      fun hi => holdsZN_of_compare (.inr (.inl ⟨hi, rfl⟩)) hea ht,
      fun hi => holdsZN_of_compare (.inr (.inr ⟨hi, rfl⟩)) hea ht⟩,
    fun h => ⟨hf.same (.flag .z) h, hf.same (.flag .n) h⟩⟩

end Sys2Proof.Machine

/-! Loads, stores and transfers (41_load_store_transfer.md): the opcode bytes of a mnemonic as rows of the opcode map, and
the outcome of a load and of a store in every form on plain RAM. -/

namespace Sys2Proof.Machine

/-! The Encodings line of an instruction rule (R64). -/

/-- The rows of the opcode map with that mnemonic, in numerical order of the opcode byte. -/
def mapRows (m : Mnemonic) : List (Byte × OperandForm × Nat) :=
  ((List.range 256).map (BitVec.ofNat 8)).filterMap fun b =>
    ((decodeOpcode b).filter (·.mnemonic == m)).map fun i => (b, i.form, i.length)

theorem mem_mapRows {m : Mnemonic} {r : Byte × OperandForm × Nat} :
    r ∈ mapRows m ↔ ∃ i, decodeOpcode r.1 = some i ∧ i.mnemonic = m ∧ r.2 = (i.form, i.length) := by
  have hb (b : Byte) : b ∈ (List.range 256).map (BitVec.ofNat 8) :=
    List.mem_map.mpr ⟨b.toNat, List.mem_range.mpr b.isLt, by simp⟩
  obtain ⟨op, row⟩ := r
  simp only [mapRows, List.mem_filterMap, hb, true_and, Option.map_eq_some_iff, Option.filter_eq_some_iff, beq_iff_eq,
    Prod.mk.injEq]
  constructor
  · rintro ⟨_, i, ⟨hd, hi⟩, rfl, rfl⟩
    exact ⟨i, hd, hi, rfl⟩
  · rintro ⟨i, hd, hi, rfl⟩
    exact ⟨op, i, ⟨hd, hi⟩, rfl, rfl⟩

/-- The rows of the map are all encodings of the mnemonic: decoder and encoder are one table. -/
theorem encodes_mapRows (m : Mnemonic) : Encodes m (mapRows m) := by
  refine ⟨fun r hr => ?_, fun i hi => ?_⟩
  · obtain ⟨i, hd, hi, hrow⟩ := mem_mapRows.mp hr
    simp [hd, hi, hrow]
  · exact List.mem_map.mpr ⟨(i.opcode, i.form, i.length), mem_mapRows.mpr ⟨i, decodeOpcode_opcode i, hi, rfl⟩, rfl⟩

theorem encodes_of_mapRows {m : Mnemonic} {rows : List (Byte × OperandForm × Nat)}
    (h : mapRows m = rows := by decide +kernel) : Encodes m rows := h ▸ encodes_mapRows m

/-! Loads and stores on plain RAM, with the port record (R99). -/

/-- An operand-reading instruction on plain RAM: the effect of the byte at the effective address, whose read
comes last. -/
theorem exec_operand_record {i : Instr} {m : Mnemonic} (hi : i.mnemonic = m) (hm : m ∈ operandMnemonics) (s : State) :
    ∃ ea u, resolve .plainRam i.mode s = some (ea, u) ∧
      exec i s = .next { operandEffect m (s.mem.read ea) s with
        mem := s.mem, port := u.port ++ [.read ea (s.mem.read ea)] } := by
  subst hi
  obtain ⟨ea, u, hu⟩ := resolve_isSome (operand_mode hm) .plainRam s
  exact ⟨ea, u, hu, by rw [exec_eq_execute, execute_operand hm hu, resolve_plainRam_mem hu]; rfl⟩

/-- A store of register value `v` on plain RAM: one byte written, at the effective address, and no read of it. -/
theorem exec_store_writes_one_byte {i : Instr} {s : State} {v : Byte}
    (h : (i.mnemonic = .sta ∧ v = s.a) ∨ (i.mnemonic = .stx ∧ v = s.x) ∨ (i.mnemonic = .sty ∧ v = s.y)) :
    ∃ ea u t, resolve .plainRam i.mode s = some (ea, u) ∧ exec i s = .next t ∧
      t = { s with mem := t.mem, port := u.port ++ [.write ea v] } ∧ t.mem.read ea = v ∧
      ∀ b : Addr, b ≠ ea → t.mem.read b = s.mem.read b := by
  have hm : i.mode ≠ .noneAddressing := by
    rcases h with ⟨hi, -⟩ | ⟨hi, -⟩ | ⟨hi, -⟩ <;> exact mode_ne_none hi
  obtain ⟨ea, u, hu⟩ := resolve_isSome hm .plainRam s
  have hmem : u.mem = s.mem := resolve_plainRam_mem hu
  refine ⟨ea, u, _, hu, (exec_eq_execute i s).trans (execute_store h hu), rfl, ?_, fun b hb => ?_⟩
  · exact Memory.read_write_same _ _ _
  · rw [← hmem]
    exact Memory.read_write_other _ _ _ _ hb

/-- Settles O18: the outcome of an operand-reading instruction, with the effect of each load. -/
theorem loadsCopyTheOperand : Obligations.LoadsCopyTheOperand := by
  refine ⟨encodes_of_mapRows, encodes_of_mapRows, encodes_of_mapRows,
    fun i s => ⟨fun hi => ?_, fun hi => ?_, fun hi => ?_⟩⟩ <;>
  · obtain ⟨ea, u, hu, he⟩ := exec_operand_record hi (by decide) s
    exact ⟨ea, u, _, hu, he, rfl, flagsWritten_statusZN _ _⟩

/-- Settles O19, by the outcome of a store for each of the three registers. -/
theorem storesWriteOneByte : Obligations.StoresWriteOneByte :=
  ⟨encodes_of_mapRows, encodes_of_mapRows, encodes_of_mapRows,
    fun _ _ => ⟨fun hi => exec_store_writes_one_byte (.inl ⟨hi, rfl⟩),
      fun hi => exec_store_writes_one_byte (.inr (.inl ⟨hi, rfl⟩)),
      fun hi => exec_store_writes_one_byte (.inr (.inr ⟨hi, rfl⟩))⟩⟩

/-! Transfers (R116 to R121). -/

/-- Settles O20: each transfer ends in UpdateZN of the byte transferred. -/
theorem transfersCopyARegister : Obligations.TransfersCopyARegister := by
  refine ⟨encodes_of_mapRows, encodes_of_mapRows, encodes_of_mapRows,
    encodes_of_mapRows, encodes_of_mapRows, fun s => ⟨?_, ?_, ?_, ?_, ?_⟩⟩ <;>
  exact ⟨_, rfl, flagsWritten_statusZN _ _⟩

/-- The step of an instruction that leaves PC and Run alone (R80, R84). -/
theorem step_of_exec_unchanged {s u : State} {i : Instr} (hr : s.run = .running)
    (hd : decodeOpcode (s.mem.read s.pc) = some i) (hu : exec i s.fetched = .next u) (hpc : u.pc = s.pc + 1)
    (hrun : u.run = .running) : step s = .next { u with pc := s.pc + BitVec.ofNat 16 i.length } := by
  rw [step_defined hr hd, hu, ← completed_of_unchanged hpc hrun]

/-- TXS writes SP and no flag (R121, D15). -/
theorem exec_txs (s : State) : exec .txs s = .next { s with sp := s.x } := rfl

/-- Settles O21: a step of TXS is its fetch, the write of SP, and the advance by its length. -/
theorem txsWritesOnlySp : Obligations.TxsWritesOnlySp := by
  refine ⟨encodes_of_mapRows, exec_txs, fun s hr hb => ?_⟩
  have hd : decodeOpcode (s.mem.read s.pc) = some .txs := by rw [hb]; rfl
  rw [step_of_exec_unchanged hr hd (exec_txs _) rfl hr, State.fetched, hb]
  rfl

end Sys2Proof.Machine

/-! Arithmetic, logic and compares (42_arithmetic_logic.md): AddToA as modular and as signed arithmetic, the flags that
AddToA, BIT and Compare write, and the outcome of each instruction in every form on plain RAM. -/

namespace Sys2Proof.Machine

/-! AddToA and SBC's operand as arithmetic (R130, R132, R141). -/

theorem addResult_toNat (a m : Byte) (c : Bool) :
    (addResult a m c).toNat = (a.toNat + m.toNat + c.toNat) % 256 := by
  simp [addResult, addSum]

theorem addResult_eq_ofNat_mod (a m : Byte) (c : Bool) :
    addResult a m c = BitVec.ofNat 8 ((a.toNat + m.toNat + c.toNat) % 256) :=
  BitVec.eq_of_toNat_eq (by simp [addResult_toNat])

theorem addCarry_eq_decide (a m : Byte) (c : Bool) :
    addCarry a m c = decide (a.toNat + m.toNat + c.toNat > 255) := rfl

/-- V is overflow of the signed sum (R141). -/
theorem addOverflow_eq_decide (a m : Byte) (c : Bool) :
    addOverflow a m c = decide (a.toInt + m.toInt + c.toNat < -128 ∨ 127 < a.toInt + m.toInt + c.toNat) := by
  have ha := a.isLt
  have hm := m.isLt
  have hc := c.toNat_le
  rw [addOverflow, Bool.eq_iff_iff]
  simp only [BitVec.msb_eq_decide, addResult_toNat, BitVec.toInt_eq_toNat_cond, Bool.and_eq_true, beq_iff_eq,
    bne_iff_ne, ne_eq, decide_eq_decide, decide_eq_true_eq]
  split <;> split <;> omega

theorem sbcOperand_toNat (m : Byte) : (sbcOperand m).toNat = 255 - m.toNat := by
  rw [sbcOperand_eq_not, BitVec.toNat_not]

theorem sbcOperand_toInt (m : Byte) : (sbcOperand m).toInt = -m.toInt - 1 := by
  have hm := m.isLt
  rw [BitVec.toInt_eq_toNat_cond, BitVec.toInt_eq_toNat_cond, sbcOperand_toNat]
  split <;> split <;> omega

/-- SBC's result is the wrapped difference of A and the operand, less the borrow (R132). -/
theorem addResult_sbcOperand (a m : Byte) (c : Bool) :
    addResult a (sbcOperand m) c = BitVec.ofNat 8 ((a.toNat + 512 - m.toNat - (1 - c.toNat)) % 256) := by
  have hm := m.isLt
  have hc := c.toNat_le
  rw [addResult_eq_ofNat_mod, sbcOperand_toNat]
  congr 1
  omega

/-- SBC's carry is the absence of a borrow (R141). -/
theorem addCarry_sbcOperand (a m : Byte) (c : Bool) :
    addCarry a (sbcOperand m) c = decide (m.toNat + (1 - c.toNat) ≤ a.toNat) := by
  have hm := m.isLt
  have hc := c.toNat_le
  rw [addCarry_eq_decide, sbcOperand_toNat, decide_eq_decide]
  omega

/-- SBC's overflow is that of the signed difference (R141). -/
theorem addOverflow_sbcOperand (a m : Byte) (c : Bool) :
    addOverflow a (sbcOperand m) c =
      decide (a.toInt - m.toInt - (1 - c.toNat) < -128 ∨ 127 < a.toInt - m.toInt - (1 - c.toNat)) := by
  have h : a.toInt + (sbcOperand m).toInt + c.toNat = a.toInt - m.toInt - (1 - c.toNat) := by
    rw [sbcOperand_toInt]
    ring
  rw [addOverflow_eq_decide, h]

/-- Settles O24: AddToA as arithmetic of the operand, and of SBC's complement of it. -/
theorem aluLawsForAllInputs : Obligations.AluLawsForAllInputs := fun a m c =>
  ⟨addResult_toNat a m c, addCarry_eq_decide a m c, addOverflow_eq_decide a m c, sbcOperand_eq_not m,
    fun _ => by rw [sbcOperand_eq_not], addCarry_sbcOperand a m c, addOverflow_sbcOperand a m c⟩

/-! The flags written. -/

/-- AddToA writes C, V, Z and N, the last three from the result `r`; D is neither read nor written (R130, R131). -/
theorem flagsWritten_statusAdd {p a m r : Byte} (hr : addResult a m (getFlag p .c) = r) :
    FlagsWritten p (statusAdd p a m) ([(.c, decide (a.toNat + m.toNat + (getFlag p .c).toNat > 255)),
      (.v, (a.getLsbD 7 == m.getLsbD 7) && (r.getLsbD 7 != m.getLsbD 7))] ++ znOf r) := by
  subst hr
  intro f
  cases f <;> simp [getFlag_statusAdd, znOf, flagAfter, BitVec.toNat_eq, msb_eq_bit7, addOverflow, addCarry_eq_decide]

/-- BIT writes Z, V and N, the last two from the operand (R136). -/
theorem flagsWritten_statusBit (p a m : Byte) :
    FlagsWritten p (statusBit p a m) [(.z, decide (a &&& m = 0)), (.v, m.getLsbD 6), (.n, m.getLsbD 7)] := by
  intro f
  cases f <;> simp [getFlag_statusBit, flagAfter]

/-- Compare writes the carry, then Z and N of the difference (R137). -/
theorem flagsWritten_statusCompare (p reg m : Byte) :
    FlagsWritten p (statusCompare p reg m) ([(.c, decide (m.toNat ≤ reg.toNat))] ++ znOf (reg - m)) :=
  flagsWritten_carry_statusZN p (reg - m) _

/-! The instructions, each as the outcome of an operand-reading instruction. -/

/-- Settles O22: the effect of ADC's operand is AddToA. -/
theorem adcAddsWithCarry : Obligations.AdcAddsWithCarry := by
  refine ⟨encodes_of_mapRows, fun i s hi => ?_⟩
  obtain ⟨ea, u, hu, he⟩ := exec_operand_record hi (by decide) s
  refine ⟨ea, u, _, hu, he, ?_, flagsWritten_statusAdd (addResult_eq_ofNat_mod _ _ _)⟩
  rw [← addResult_eq_ofNat_mod]
  rfl

/-- Settles O23: the effect of SBC's operand is AddToA of its complement. -/
theorem sbcSubtractsWithBorrow : Obligations.SbcSubtractsWithBorrow := by
  refine ⟨encodes_of_mapRows, fun i s hi => ?_⟩
  obtain ⟨ea, u, hu, he⟩ := exec_operand_record hi (by decide) s
  refine ⟨ea, u, _, hu, he, ?_, flagsWritten_statusAdd (addResult_sbcOperand _ _ _)⟩
  rw [← addResult_sbcOperand]
  rfl

/-- Settles O25: the effect of each operand ends in UpdateZN of the bits combined. -/
theorem logicCombinesBits : Obligations.LogicCombinesBits := by
  refine ⟨encodes_of_mapRows, encodes_of_mapRows, encodes_of_mapRows,
    fun i s => ⟨fun hi => ?_, fun hi => ?_, fun hi => ?_⟩⟩ <;>
  · obtain ⟨ea, u, hu, he⟩ := exec_operand_record hi (by decide) s
    exact ⟨ea, u, _, hu, he, rfl, flagsWritten_statusZN _ _⟩

/-- Settles O26: the effect of BIT's operand is on P alone. -/
theorem bitTestsAgainstA : Obligations.BitTestsAgainstA := by
  refine ⟨encodes_of_mapRows, fun i s hi => ?_⟩
  obtain ⟨ea, u, hu, he⟩ := exec_operand_record hi (by decide) s
  exact ⟨ea, u, _, hu, he, rfl, flagsWritten_statusBit _ _ _⟩

/-- Settles O27: the effect of each operand is Compare of it with the register, on P alone. -/
theorem comparesWriteOnlyCZN : Obligations.ComparesWriteOnlyCZN := by
  refine ⟨encodes_of_mapRows, encodes_of_mapRows, encodes_of_mapRows,
    fun i s => ⟨fun hi => ?_, fun hi => ?_, fun hi => ?_⟩⟩ <;>
  · obtain ⟨ea, u, hu, he⟩ := exec_operand_record hi (by decide) s
    exact ⟨ea, u, _, hu, he, rfl, flagsWritten_statusCompare _ _ _⟩

end Sys2Proof.Machine

/-! Shifts, rotates, increments and decrements (43_shift_incdec.md): the outcome of a read-modify-write in every form on
plain RAM, of a shift or rotate of the accumulator, and of the index counts. -/

namespace Sys2Proof.Machine

/-! Read-modify-writes on plain RAM, with the port record (R160). -/

/-- A read-modify-write on plain RAM: one byte changed, at the effective address, and the flags of its mnemonic. -/
theorem exec_modify_changes_one_byte {i : Instr} (h : i.storesToEA = true)
    (hs : [Mnemonic.sta, .stx, .sty].contains i.mnemonic = false) (s : State) :
    ∃ ea u t r l, resolve .plainRam i.mode s = some (ea, u) ∧
      modifyResult i.mnemonic (s.mem.read ea) (getFlag s.p .c) = some (r, l) ∧ exec i s = .next t ∧
      t = { s with
        p := t.p
        mem := t.mem
        port := u.port ++ [.read ea (s.mem.read ea), .write ea r] } ∧
      t.mem.read ea = r ∧ (∀ b : Addr, b ≠ ea → t.mem.read b = s.mem.read b) ∧ FlagsWritten s.p t.p l := by
  obtain ⟨ea, u, hu⟩ := resolve_isSome (storesToEA_mode h) .plainRam s
  obtain ⟨r, q, l, hr, he, hl⟩ := execute_modify h hs hu
  rw [← exec_eq_execute, resolve_plainRam_mem hu] at he
  rw [resolve_plainRam_mem hu] at hr
  exact ⟨ea, u, _, r, l, hu, hr, he, rfl, Memory.read_write_same _ _ _, fun _ => Memory.read_write_other _ _ _ _, hl⟩

/-- Settles O29: INC and DEC are read-modify-writes whose flags are Z and N of the result. -/
theorem memoryIncrementAndDecrement : Obligations.MemoryIncrementAndDecrement := by
  refine ⟨encodes_of_mapRows, encodes_of_mapRows, fun i s => ⟨fun hi => ?_, fun hi => ?_⟩⟩ <;>
  · obtain ⟨ea, u, t, r, l, hu, hr, he, ht⟩ :=
      exec_modify_changes_one_byte (i := i) (by simp [Instr.storesToEA, hi]) (by simp [hi]) s
    rw [hi] at hr
    obtain ⟨rfl, rfl⟩ := Prod.mk.inj (Option.some.inj hr)
    exact ⟨ea, u, t, hu, he, ht⟩

/-! Shifts and rotates (R150 to R153). -/

/-- The accumulator form of a shift or rotate applies the mnemonic's function to A (R101). -/
theorem executeForm_shift_accumulator {m : Mnemonic} (h : m ∈ [Mnemonic.asl, .lsr, .rol, .ror]) :
    ∃ f, Shifts m f ∧ ∀ bus op s, executeForm bus op m .accumulator s = modifyA f s := by
  fin_cases h
  · exact ⟨aslFn, shifts_asl, fun _ _ _ => rfl⟩
  · exact ⟨lsrFn, shifts_lsr, fun _ _ _ => rfl⟩
  · exact ⟨rolFn, shifts_rol, fun _ _ _ => rfl⟩
  · exact ⟨rorFn, shifts_ror, fun _ _ _ => rfl⟩

/-- A shift or rotate of A: no register but A and P, and no port access. -/
theorem modifyA_of_shifts {m : Mnemonic} {f : ShiftFn} (hf : Shifts m f) (s : State) :
    ∃ q r cout, shiftResult m s.a (getFlag s.p .c) = some (r, cout) ∧
      modifyA f s = .next { s with a := BitVec.ofNat 8 r, p := q } ∧
      FlagsWritten s.p q ((.c, cout) :: znOf (BitVec.ofNat 8 r)) := by
  obtain ⟨cout, hr, hp⟩ := hf s.a s.p
  refine ⟨_, _, cout, hr, ?_, flagsWritten_carry_statusZN _ _ _⟩
  simp [modifyA, State.updateZN, hp]

/-- Every operand of a shift or rotate has a result. -/
theorem shiftResult_isSome {m : Mnemonic} (h : m ∈ [Mnemonic.asl, .lsr, .rol, .ror]) (v : Byte) (cin : Bool) :
    ∃ r cout, shiftResult m v cin = some (r, cout) := by
  fin_cases h <;> exact ⟨_, _, rfl⟩

/-- Settles O28: the accumulator form by the function of its mnemonic, a memory form as a read-modify-write. -/
theorem shiftsAndRotates : Obligations.ShiftsAndRotates := by
  refine ⟨encodes_of_mapRows, encodes_of_mapRows, encodes_of_mapRows, encodes_of_mapRows,
    fun i s h => ⟨fun hform => ?_, fun hform => ?_⟩⟩
  · obtain ⟨f, hf, hexec⟩ := executeForm_shift_accumulator (List.contains_iff_mem.1 h)
    obtain ⟨q, r, cout, hr, he, hq⟩ := modifyA_of_shifts hf s
    have hx : exec i s = modifyA f s := by rw [exec_eq_execute, execute, hform, hexec]
    exact ⟨_, r, cout, hr, hx.trans he, rfl, hq⟩
  · have hmem : i.mnemonic ∈ [Mnemonic.asl, .lsr, .rol, .ror] := List.contains_iff_mem.1 h
    have hstore : [Mnemonic.sta, .stx, .sty].contains i.mnemonic = false := by
      revert hmem; cases i.mnemonic <;> decide
    have hea : i.storesToEA = true := by rw [Instr.storesToEA, h]; simp [hform]
    obtain ⟨ea, u, t, b, l, hu, hb, he, ht⟩ := exec_modify_changes_one_byte hea hstore s
    obtain ⟨r, cout, hr⟩ := shiftResult_isSome hmem (s.mem.read ea) (getFlag s.p .c)
    obtain ⟨rfl, rfl⟩ := Prod.mk.inj (Option.some.inj ((modifyResult_of_shiftResult hr).symm.trans hb))
    exact ⟨ea, u, t, r, cout, hu, hr, he, ht⟩

/-! The index counts (R156 to R159). -/

theorem ofNat_add_one_mod (v : Byte) : BitVec.ofNat 8 ((v.toNat + 1) % 256) = v + 1 :=
  BitVec.eq_of_toNat_eq (by simp [BitVec.toNat_add])

theorem ofNat_add_255_mod (v : Byte) : BitVec.ofNat 8 ((v.toNat + 255) % 256) = v - 1 :=
  BitVec.eq_of_toNat_eq (by simp [BitVec.toNat_sub, Nat.add_comm])

/-- Settles O30: each count ends in UpdateZN of the index register. -/
theorem indexIncrementAndDecrement : Obligations.IndexIncrementAndDecrement := by
  refine ⟨encodes_of_mapRows, encodes_of_mapRows, encodes_of_mapRows, encodes_of_mapRows, fun s => ?_⟩
  simp only [ofNat_add_one_mod, ofNat_add_255_mod]
  refine ⟨?_, ?_, ?_, ?_⟩ <;> exact ⟨_, rfl, flagsWritten_statusZN _ _⟩

end Sys2Proof.Machine

/-! Stack instructions (44_stack.md): the word that comes back from the stack, the outcome of pushes and pulls on plain
RAM, and the addresses that stack accesses go to on any bus. -/

namespace Sys2Proof.Machine

/-! Words on the stack, on plain RAM (R173 to R175). -/

/-- The stack bytes at SP and at the SP below are two bytes, at the page boundary too (R175). -/
theorem stackByte_ne_stackByte_pred (sp : Byte) : stackByte sp ≠ stackByte (sp - 1) := by
  rw [Ne, stackByte_injective]
  bv_omega

/-- A word pushed lies in memory with its high byte at the higher SP (R173). -/
theorem State.push16_stores_word (s : State) (w : Addr) :
    let t := s.push16 .plainRam w
    t.mem.read (stackByte s.sp) = highByte w ∧ t.mem.read (stackByte (s.sp - 1)) = lowByte w ∧
      ∀ b : Addr, b ≠ stackByte s.sp → b ≠ stackByte (s.sp - 1) → t.mem.read b = s.mem.read b := by
  simp only [State.push16_eq, Bus.plainRam_write]
  refine ⟨?_, Memory.read_write_same _ _ _, fun b hhi hlo => ?_⟩
  · rw [Memory.read_write_other _ _ _ _ (stackByte_ne_stackByte_pred s.sp), Memory.read_write_same]
  · rw [Memory.read_write_other _ _ _ _ hlo, Memory.read_write_other _ _ _ _ hhi]

/-- A pop of the two bytes of word `w` below stack pointer `sp` gives `w` and leaves SP at `sp` (R174). -/
theorem State.pop16_of_word {t : State} {sp : Byte} {w : Addr} (hsp : t.sp = sp - 2)
    (hhi : t.mem.read (stackByte sp) = highByte w) (hlo : t.mem.read (stackByte (sp - 1)) = lowByte w) :
    t.pop16 .plainRam = (w, { t with
      sp := sp
      port := t.port ++ [.read (stackByte (sp - 1)) (lowByte w), .read (stackByte sp) (highByte w)] }) := by
  have hsp1 : t.sp + 1 = sp - 1 := by rw [hsp]; bv_omega
  have hsp2 : t.sp + 2 = sp := by rw [hsp]; bv_omega
  rw [State.pop16_eq]
  simp only [Bus.plainRam_read, hsp1, hsp2, hhi, hlo, joinBytes_split]

/-- Settles O31: a push16 stores the bytes of the word where the pop16 after it reads them. -/
theorem wordsRoundTripThroughTheStack : Obligations.WordsRoundTripThroughTheStack := by
  refine ⟨fun s v => ?_, fun s => ?_, fun s w => ?_⟩
  · have hsp : BitVec.ofNat 8 (s.sp.toNat + 255) = s.sp - 1 := by bv_omega
    rw [State.push_eq, hsp, Bus.plainRam_write]
  · have hsp : BitVec.ofNat 8 (s.sp.toNat + 1) = s.sp + 1 := by bv_omega
    simp only [State.pop_eq, hsp, Bus.plainRam_read]
  · intro t hi lo
    have hhi : highByte w = hi := highByte_eq_ofNat w
    have hlo : lowByte w = lo := lowByte_eq_ofNat w
    have ht : t = _ := State.push16_eq .plainRam s w
    obtain ⟨hmemHi, hmemLo, hother⟩ := State.push16_stores_word s w
    rw [← hhi, ← hlo]
    exact ⟨by rw [ht], hmemHi, hmemLo, hother, State.pop16_of_word (by rw [ht]) hmemHi hmemLo⟩

/-! Pushes and pulls of a byte on plain RAM (R176 to R179). -/

/-- PLA on plain RAM (R178). -/
theorem exec_pla (s : State) : exec .pla s = .next (State.updateZN { s with
    a := s.mem.read (stackByte (s.sp + 1))
    sp := s.sp + 1
    port := s.port ++ [.read (stackByte (s.sp + 1)) (s.mem.read (stackByte (s.sp + 1)))] }
      (s.mem.read (stackByte (s.sp + 1)))) := by
  rw [exec_eq_execute, execute_pla, State.pop_eq, Bus.plainRam_read]

/-- PLP on plain RAM (R179). -/
theorem exec_plp (s : State) : exec .plp s = .next { s with
    p := pulledStatus (s.mem.read (stackByte (s.sp + 1)))
    sp := s.sp + 1
    port := s.port ++ [.read (stackByte (s.sp + 1)) (s.mem.read (stackByte (s.sp + 1)))] } := by
  rw [exec_eq_execute, execute_plp, State.pullStatus, State.pop_eq, Bus.plainRam_read]

/-- Settles O32: a push is one write, of A or of P with bits 4 and 5 set. -/
theorem pushesStoreOneStackByte : Obligations.PushesStoreOneStackByte := by
  refine ⟨encodes_of_mapRows, encodes_of_mapRows, ?_⟩
  intro s spec
  have hpush : ∀ {i : Instr} {v : Byte}, exec i s = .next { s with
      sp := s.sp - 1
      mem := s.mem.write (stackByte s.sp) v
      port := s.port ++ [.write (stackByte s.sp) v] } → spec i v := fun he =>
    ⟨_, he, rfl, Memory.read_write_same _ _ _, fun _ => Memory.read_write_other _ _ _ _⟩
  exact ⟨hpush exec_pha, hpush exec_php⟩

/-- Settles O33: PLA ends in UpdateZN of the byte pulled, PLP loads it with B cleared and bit 5 set. -/
theorem pullsLoadFromTheStack : Obligations.PullsLoadFromTheStack :=
  ⟨encodes_of_mapRows, encodes_of_mapRows,
    fun s => ⟨⟨_, exec_pla s, flagsWritten_statusZN _ _⟩, exec_plp s⟩⟩

/-! Where stack accesses go, on any bus (R170, R175). -/

/-- The stack instructions and those built on push and pop. -/
theorem mem_stackInstrs {i : Instr}
    (h : [Mnemonic.pha, .php, .pla, .plp, .jsr, .rts, .rti].contains i.mnemonic = true) :
    i ∈ [Instr.pha, .php, .pla, .plp, .jsr, .rts, .rti] := by
  revert h; cases i <;> decide

/-- Settles O51: every access on the exact record of each instruction is to a stack byte, but JSR's operand reads. -/
theorem stackAccessesStayInTheStackPage : Obligations.StackAccessesStayInTheStackPage := by
  intro bus i s h
  have hi := mem_stackInstrs h
  obtain ⟨hpha, hphp, ⟨_, hpla, -⟩, hplp, hrts, hrti, hjsr, -⟩ := stackAndJumpAccessLists bus s
  fin_cases hi
  · exact ⟨_, _, hpha, rfl, List.forall_mem_singleton.2 (stackByte_bounds _)⟩
  · exact ⟨_, _, hphp, rfl, List.forall_mem_singleton.2 (stackByte_bounds _)⟩
  · exact ⟨_, _, hpla, rfl, List.forall_mem_singleton.2 (.inl (stackByte_bounds _))⟩
  · exact ⟨_, _, hplp, rfl, List.forall_mem_singleton.2 (.inl (stackByte_bounds _))⟩
  · refine ⟨_, _, hjsr, rfl, ?_⟩
    rw [List.forall_mem_cons, List.forall_mem_cons, List.forall_mem_cons, List.forall_mem_singleton]
    exact ⟨stackByte_bounds _, stackByte_bounds _, .inr ⟨rfl, .inl rfl⟩, .inr ⟨rfl, .inr rfl⟩⟩
  · refine ⟨_, _, hrts, rfl, ?_⟩
    rw [List.forall_mem_cons, List.forall_mem_singleton]
    exact ⟨.inl (stackByte_bounds _), .inl (stackByte_bounds _)⟩
  · refine ⟨_, _, hrti, rfl, ?_⟩
    rw [List.forall_mem_cons, List.forall_mem_cons, List.forall_mem_singleton]
    exact ⟨.inl (stackByte_bounds _), .inl (stackByte_bounds _), .inl (stackByte_bounds _)⟩

end Sys2Proof.Machine

/-! Branches, jumps, calls, returns, halt and no-op (45_control.md): where the advance leaves PC after an instruction
that wrote it, the outcome of branches and JSR on plain RAM, and the pair of JSR and RTS. -/

namespace Sys2Proof.Machine

/-! The step of an instruction that may write PC (R84). -/

/-- The step of every instruction but BRK ends where execute put PC, save that PC where the fetch left it skips the
operand bytes. -/
theorem step_redirects {s : State} {i : Instr} (hr : s.run = .running) (hd : decodeOpcode (s.mem.read s.pc) = some i)
    (hi : i.mnemonic ≠ .brk) : ∃ u, exec i s.fetched = .next u ∧
      step s = .next { u with pc := if u.pc = s.pc + 1 then s.pc + BitVec.ofNat 16 i.length else u.pc } := by
  obtain ⟨u, hu, hf⟩ := exec_frame i s.fetched
  have hrun : u.run = .running := (hf.same .run hi).trans hr
  refine ⟨u, hu, ?_⟩
  rw [step_defined hr hd, hu]
  refine congrArg Host.Outcome.next ?_
  by_cases hpc : u.pc = s.pc + 1
  · rw [completed_of_unchanged hpc hrun, if_pos hpc]
  · have hhalt : u.run ≠ .halted := by simp [hrun]
    rw [State.completed, if_neg hhalt, State.advance, if_neg hpc, if_neg hpc]

/-! Halt and no-op (R204, R205). -/

theorem execute_brk (bus : Bus) (s : State) : execute bus .brk s = .next { s with run := .halted } := rfl

/-- BRK's step on any bus and with any observer: its fetch, and Run = Halted (R204, R233). -/
theorem stepOn_brk {bus : Bus} (obs : Observer) {s : State} (hr : s.run = .running)
    (hb : (bus.read s.mem s.pc).1 = 0x00#8) : stepOn bus obs s = .next
      { s with pc := s.pc + 1, run := .halted, mem := (bus.read s.mem s.pc).2, port := [.read s.pc 0x00#8] } := by
  have hd : decodeOpcode (s.fetch bus).1 = some .brk := congrArg decodeOpcode hb
  rw [stepOn_defined obs hr hd (execute_brk bus _), ← hb]
  rfl

/-- Settles O10: the halted core skips the phases after execute, on plain RAM as on any bus. -/
theorem brkHaltsAndChangesNothingElse : Obligations.BrkHaltsAndChangesNothingElse := by
  refine ⟨encodes_of_mapRows, fun s => ?_, fun bus obs s hr hb => stepOn_brk obs hr hb, fun s hr hb => ?_⟩
  · rw [exec_eq_execute, execute_brk]
  · have hd : decodeOpcode (s.mem.read s.pc) = some .brk := by rw [hb]; rfl
    rw [step_defined hr hd, exec_eq_execute, execute_brk, State.fetched, hb]
    rfl

theorem exec_nop (s : State) : exec .nop s = .next s := rfl

/-- Settles O39: a step of NOP is its fetch and the advance by its length. -/
theorem nopChangesNothing : Obligations.NopChangesNothing := by
  refine ⟨encodes_of_mapRows, exec_nop, fun s hr hb => ?_⟩
  have hd : decodeOpcode (s.mem.read s.pc) = some .nop := by rw [hb]; rfl
  rw [step_of_exec_unchanged hr hd (exec_nop _) rfl hr, State.fetched, hb]
  rfl

/-! Branches (R190 to R198). -/

section
variable {i : Instr} {s : State} {taken : Bool}

/-- A branch on plain RAM (R190). -/
theorem exec_branch (h : branchCondition i.mnemonic s.p = some taken) : exec i s = .next (if taken then
    { s with
      pc := s.pc + 1 + BitVec.ofInt 16 (s.mem.read s.pc).toInt
      port := s.port ++ [.read s.pc (s.mem.read s.pc)] }
    else s) := by
  rw [exec_eq_execute, execute_branch .plainRam s h, branch_eq]
  rfl

theorem branch_length {p : Byte} (h : branchCondition i.mnemonic p = some taken) : i.length = 2 := by
  cases i <;> cases h <;> rfl

end

/-- The displacement 0xFF, -1, is the only one that leads back to where the fetch left PC. -/
theorem branch_target_eq_iff (pc : Addr) (d : Byte) : pc + 2 + BitVec.ofInt 16 d.toInt = pc + 1 ↔ d = 0xFF#8 := by
  have hd : BitVec.ofInt 16 d.toInt = 0xFFFF#16 ↔ d = 0xFF#8 := by
    rw [← sext16_eq_ofInt, sext16]
    revert d; decide
  rw [← hd]
  bv_omega

/-- The advance after a taken branch: past the operand byte for the displacement 0xFF, none for any other (R84). -/
theorem branch_redirect (pc : Addr) (d : Byte) :
    (if pc + 1 + 1 + BitVec.ofInt 16 d.toInt = pc + 1 then pc + 2 else pc + 1 + 1 + BitVec.ofInt 16 d.toInt) =
      if d ≠ 0xFF#8 then pc + 2 + BitVec.ofInt 16 d.toInt else pc + 2 := by
  have hassoc : pc + 1 + 1 = pc + 2 := BitVec.add_assoc ..
  simp only [hassoc, branch_target_eq_iff, ite_not]

/-- Settles O34: the target of a taken branch is where the fetch left PC for the displacement 0xFF alone. -/
theorem branchesGoRelativeToTheNextInstruction : Obligations.BranchesGoRelativeToTheNextInstruction := by
  refine ⟨encodes_of_mapRows, encodes_of_mapRows, encodes_of_mapRows, encodes_of_mapRows, encodes_of_mapRows,
    encodes_of_mapRows, encodes_of_mapRows, encodes_of_mapRows, fun i s taken h => exec_branch h, ?_⟩
  intro i s taken hr hd h d
  have hbrk : i.mnemonic ≠ .brk := fun hi => by simp [hi, branchCondition] at h
  obtain ⟨u, hu, hstep⟩ := step_redirects hr hd hbrk
  obtain rfl := Host.Outcome.next.inj (hu.symm.trans (exec_branch h))
  rw [branch_length h] at hstep
  refine ⟨_, hstep, ?_⟩
  cases taken with
  | false => exact ⟨rfl, by simp [State.fetched]⟩
  | true =>
    refine ⟨rfl, ?_⟩
    simp only [true_and]
    exact branch_redirect s.pc d

/-! Jumps (R199, R200). -/

/-- Settles O35: the access lists of JMP on plain RAM, and the advance of a three-byte instruction. -/
theorem jumpsLoadPc : Obligations.JumpsLoadPc := by
  refine ⟨encodes_of_mapRows, fun s => ?_, fun i s hr hd hi => ?_⟩
  · obtain ⟨-, -, -, -, -, -, -, habs, hind, -⟩ := stackAndJumpAccessLists .plainRam s
    exact ⟨(exec_eq_execute .jmpAbs s).trans habs, (exec_eq_execute .jmpInd s).trans hind⟩
  · have hlen : i.length = 3 := by revert hi; cases i <;> decide
    obtain ⟨u, hu, hstep⟩ := step_redirects hr hd (by simp [hi])
    rw [hlen] at hstep
    exact ⟨_, u, hu, hstep, rfl⟩

/-! Call and return (R201 to R203, R206). -/

/-- JSR on plain RAM: the push of PC + 1, then the target from the memory `m` after it (R201, D14). -/
theorem exec_jsr (s : State) : ∃ m : Memory,
    exec .jsr s = .next { s with
      sp := s.sp - 2
      mem := m
      pc := wordAt m s.pc (s.pc + 1)
      port := s.port ++ [.write (stackByte s.sp) (highByte (s.pc + 1)),
        .write (stackByte (s.sp - 1)) (lowByte (s.pc + 1)), .read s.pc (m.read s.pc),
        .read (s.pc + 1) (m.read (s.pc + 1))] } ∧
    m.read (stackByte s.sp) = highByte (s.pc + 1) ∧ m.read (stackByte (s.sp - 1)) = lowByte (s.pc + 1) ∧
    ∀ b : Addr, b ≠ stackByte s.sp → b ≠ stackByte (s.sp - 1) → m.read b = s.mem.read b := by
  refine ⟨_, ?_, State.push16_stores_word s (s.pc + 1)⟩
  simp only [exec_eq_execute, execute_jsr, jumpTo, State.memRead16_eq, State.push16_eq, wordAt_eq_joinBytes,
    Bus.plainRam_read, List.append_assoc, List.cons_append, List.nil_append]

/-- RTS on plain RAM, where the stack holds the word `w` below stack pointer `sp` (R202). -/
theorem exec_rts_of_word {t : State} {sp : Byte} {w : Addr} (hsp : t.sp = sp - 2)
    (hhi : t.mem.read (stackByte sp) = highByte w) (hlo : t.mem.read (stackByte (sp - 1)) = lowByte w) :
    ∃ l, exec .rts t = .next { t with sp := sp, pc := w + 1, port := l } := by
  rw [exec_eq_execute, execute_rts, State.pop16_of_word hsp hhi hlo]
  exact ⟨_, rfl⟩

/-- Settles O36: the pushed word stands in the memory from which the target is read. -/
theorem jsrPushesThenJumps : Obligations.JsrPushesThenJumps := by
  refine ⟨encodes_of_mapRows, fun s => ?_, fun s hr hb => ?_⟩
  · obtain ⟨m, ht, hmem⟩ := exec_jsr s
    refine ⟨_, ht, ?_⟩
    intro hi lo
    have hhi : highByte (s.pc + 1) = hi := highByte_eq_ofNat _
    have hlo : lowByte (s.pc + 1) = lo := lowByte_eq_ofNat _
    rw [← hhi, ← hlo]
    exact ⟨rfl, hmem⟩
  · have hd : decodeOpcode (s.mem.read s.pc) = some .jsr := by rw [hb]; rfl
    obtain ⟨u, hu, hstep⟩ := step_redirects hr hd (by decide)
    exact ⟨_, u, hu, hstep, rfl⟩

/-- Settles O37: the access lists of RTS and RTI on plain RAM; a one-byte instruction has no operand byte to skip. -/
theorem returnsPopPc : Obligations.ReturnsPopPc := by
  refine ⟨encodes_of_mapRows, encodes_of_mapRows, fun s => ?_, fun i s hr hd hi => ?_⟩
  · obtain ⟨-, -, -, -, hrts, hrti, -⟩ := stackAndJumpAccessLists .plainRam s
    exact ⟨(exec_eq_execute .rts s).trans hrts, (exec_eq_execute .rti s).trans hrti⟩
  · have hlen : i.length = 1 := by revert hi; cases i <;> decide
    obtain ⟨u, hu, hstep⟩ := step_redirects hr hd (by rcases hi with hi | hi <;> simp [hi])
    have hpc : (if u.pc = s.pc + 1 then s.pc + BitVec.ofNat 16 i.length else u.pc) = u.pc := by
      rw [hlen, ite_eq_right_iff]
      exact Eq.symm
    rw [hstep, hpc, hu]

/-- Settles O38: the word that JSR pushed is the address of its last byte, and RTS adds one to it. -/
theorem rtsReturnsBehindTheJsr : Obligations.RtsReturnsBehindTheJsr := by
  intro s t u ht hsp hhi hlo
  obtain ⟨m, hjsr, hmemHi, hmemLo, -⟩ := exec_jsr s
  obtain rfl := Host.Outcome.next.inj (hjsr.symm.trans ht)
  obtain ⟨l, hrts⟩ := exec_rts_of_word hsp (hhi.trans hmemHi) (hlo.trans hmemLo)
  have hpc : s.pc + 1 + 1 = s.pc + 2 := BitVec.add_assoc ..
  exact ⟨_, hrts, by rw [hpc]⟩

end Sys2Proof.Machine

/-! Flag instructions (46_flags.md R220 to R226): each is one write of a flag of P. -/

namespace Sys2Proof.Machine

/-- A write of a flag writes that flag alone (R25). -/
theorem flagsWritten_setFlag (p : Byte) (f : Flag) (b : Bool) : FlagsWritten p (setFlag p f b) [(f, b)] :=
  fun g => getFlag_setFlag p g f b

/-- An instruction that is one write of a flag, with the new P given as a byte `q`. -/
theorem exec_flag_write {i : Instr} {s : State} {f : Flag} {b : Bool} {q : Byte}
    (he : exec i s = .next (s.writeFlag f b)) (hq : setFlag s.p f b = q) :
    exec i s = .next { s with p := q } ∧ FlagsWritten s.p q [(f, b)] := by
  subst hq
  exact ⟨he, flagsWritten_setFlag s.p f b⟩

/-- Settles O40: each instruction is one flag write, which clears with the complement of the flag's mask and sets with
the mask. -/
theorem flagInstructionsWriteOneBit : Obligations.FlagInstructionsWriteOneBit := by
  refine ⟨encodes_of_mapRows, encodes_of_mapRows, encodes_of_mapRows, encodes_of_mapRows, encodes_of_mapRows,
    encodes_of_mapRows, encodes_of_mapRows, fun p f => ?layout, fun s => ?writes⟩
  case layout => cases f <;> rfl
  case writes =>
    exact ⟨exec_flag_write rfl rfl, exec_flag_write rfl rfl, exec_flag_write rfl rfl, exec_flag_write rfl rfl,
      exec_flag_write rfl rfl, exec_flag_write rfl rfl, exec_flag_write rfl rfl⟩

end Sys2Proof.Machine

/-! Exceptions (60_exceptions.md R230 to R239): the state a fatal step leaves, and completion of every instruction. -/

namespace Sys2Proof.Machine

/-- Settles O8: the fatal condition is raised on the fetched state, and a core whose Run is Fatal takes no step. -/
theorem unknownOpcodeLeavesTheStateOfR230 : Obligations.UnknownOpcodeLeavesTheStateOfR230 :=
  fun _ hr hd => ⟨step_undefined hr hd, step_fatal rfl⟩

/-- BRK is the only row of its mnemonic (R204). -/
theorem eq_brk_of_mnemonic {i : Instr} (h : i.mnemonic = .brk) : i = .brk := by
  revert h; cases i <;> decide

/-- Every instruction completes on any bus; BRK halts, and Run is in the frame of every other one (R204, R234). -/
theorem execute_completes (bus : Bus) (i : Instr) (s : State) :
    ∃ t, execute bus i s = .next t ∧ t.run = if i = .brk then .halted else s.run := by
  by_cases hi : i = .brk
  case pos =>
    subst hi
    exact ⟨_, execute_brk bus s, rfl⟩
  case neg =>
    obtain ⟨t, ht, hf⟩ := execute_frame bus i s
    have hrun : t.run = s.run := hf.same .run fun h => hi (eq_brk_of_mnemonic h)
    exact ⟨t, ht, by rw [hrun, if_neg hi]⟩

/-- Settles O12: the execute phase on plain RAM is that of the bus `Bus.plainRam`. -/
theorem everyInstructionCompletes : Obligations.EveryInstructionCompletes :=
  ⟨fun i s => exec_eq_execute i s ▸ execute_completes .plainRam i s, execute_completes⟩

end Sys2Proof.Machine

/-! Reset and hazards (70_reset_and_hazards.md R260 to R263): the state a reset leaves on plain RAM, and what the
loader's writes leave in memory. -/

namespace Sys2Proof.Machine

/-! Reset and power-up (R260, R261). -/

/-- The state that a reset leaves on plain RAM, whatever the state before it but for memory (R260). -/
theorem State.afterReset_plainRam (s : State) :
    s.afterReset .plainRam =
      { a := 0x00, x := 0x00, y := 0x00, p := 0x24, sp := 0xFD, pc := wordAt s.mem 0xFFFC 0xFFFD, run := .running,
        mem := s.mem, port := [.read 0xFFFC (s.mem.read 0xFFFC), .read 0xFFFD (s.mem.read 0xFFFD)] } := by
  rw [wordAt_eq_joinBytes]
  rfl

theorem hostReset_running {bus : Bus} {s : State} (h : s.run = .running) :
    hostReset bus s = .refused .resetWhileRunning := if_pos h

theorem hostReset_stopped {bus : Bus} {s : State} (h : s.run ≠ .running) : hostReset bus s = .next (s.afterReset bus) :=
  if_neg h

theorem powerUp_not_running (initMem : Memory) : (State.powerUp initMem).run ≠ .running := nofun

/-- Settles O52, by whether the loop runs. -/
theorem resetSequence : Obligations.ResetSequence :=
  fun s => ⟨hostReset_running, fun h => by rw [hostReset_stopped h, State.afterReset_plainRam]⟩

/-- Settles O53: Run is poweredUp at power-up, and such a core takes no step. -/
theorem powerUpDefaults : Obligations.PowerUpDefaults :=
  fun initMem => ⟨rfl, rfl, rfl, rfl, rfl, rfl, powerUp_not_running initMem, rfl, step_poweredUp rfl⟩

/-- Settles O55: the word at the vector of a memory that lists nothing is 0x0000. -/
theorem resetStateIsTheResetOfAnEmptyMemory : Obligations.ResetStateIsTheResetOfAnEmptyMemory := by
  have hreset : (State.powerUp []).afterReset .plainRam = State.reset := by
    rw [State.afterReset_plainRam]
    rfl
  exact ⟨by rw [hostReset_stopped (powerUp_not_running []), hreset], rfl, rfl, rfl, rfl, rfl, rfl, rfl⟩

/-! Program loading (R262). -/

/-- The place of byte `k` behind the first one, counted from the first and from the second address (R24, R262). -/
theorem add_ofNat_succ (base : Addr) (k : Nat) : base + BitVec.ofNat 16 (k + 1) = base + 1 + BitVec.ofNat 16 k := by
  bv_omega

/-- The loader leaves the bytes outside the places of the program as they were. -/
theorem read_loadBytes_outside {base b : Addr} {prog : List Byte} {m : Memory}
    (h : ∀ k < prog.length, b ≠ base + BitVec.ofNat 16 k) :
    (loadBytes .plainRam base prog m).read b = m.read b := by
  induction prog generalizing base m with
  | nil => rfl
  | cons v vs ih =>
    have hfirst : b ≠ base := by simpa using h 0 (Nat.zero_lt_succ _)
    have hrest : ∀ k < vs.length, b ≠ base + 1 + BitVec.ofNat 16 k := fun k hk =>
      add_ofNat_succ base k ▸ h (k + 1) (Nat.succ_lt_succ hk)
    exact (ih hrest).trans (Memory.read_write_other m base b v hfirst)

/-- A program that fits the space lies at its place: no later byte comes round to an earlier one. -/
theorem read_loadBytes_at {base : Addr} {prog : List Byte} {m : Memory} {k : Nat} (hfit : prog.length ≤ 65536)
    (h : k < prog.length) : (loadBytes .plainRam base prog m).read (base + BitVec.ofNat 16 k) = prog[k] := by
  induction prog generalizing base m k with
  | nil => exact absurd h (Nat.not_lt_zero k)
  | cons v vs ih =>
    rw [List.length_cons] at hfit h
    cases k with
    | zero =>
      have hrest : ∀ j < vs.length, base + BitVec.ofNat 16 0 ≠ base + 1 + BitVec.ofNat 16 j := by
        intro j hj
        bv_omega
      have hfirst : base + BitVec.ofNat 16 0 = base := BitVec.add_zero base
      exact (read_loadBytes_outside hrest).trans (by rw [hfirst]; exact Memory.read_write_same m base v)
    | succ k =>
      rw [add_ofNat_succ]
      exact ih (by omega) (by omega)

/-- The memory after loading: the program, then the two bytes of the vector. -/
theorem loadProgram_mem (base : Addr) (prog : List Byte) (s : State) :
    (s.loadProgram .plainRam base prog).mem =
      ((loadBytes .plainRam base prog s.mem).write 0xFFFC (lowByte base)).write 0xFFFD (highByte base) :=
  rfl

/-- The vector holds the load base, whatever the program covers (log entry 19). -/
theorem wordAt_vector_loadProgram (base : Addr) (prog : List Byte) (s : State) :
    wordAt (s.loadProgram .plainRam base prog).mem 0xFFFC 0xFFFD = base := by
  rw [wordAt_eq_joinBytes, loadProgram_mem, Memory.read_write_same,
    Memory.read_write_other _ _ _ _ (by decide), Memory.read_write_same, joinBytes_split]

/-- Outside the vector, loading is the loading of the program's bytes. -/
theorem read_loadProgram_off_vector (base : Addr) (prog : List Byte) (s : State) {b : Addr} (hlo : b ≠ 0xFFFC)
    (hhi : b ≠ 0xFFFD) :
    (s.loadProgram .plainRam base prog).mem.read b = (loadBytes .plainRam base prog s.mem).read b := by
  rw [loadProgram_mem, Memory.read_write_other _ _ _ _ hhi, Memory.read_write_other _ _ _ _ hlo]

/-- The boot is never refused: it resets a core that was just powered up (R263). -/
theorem boot_eq_afterReset (bus : Bus) (initMem : Memory) (base : Addr) (prog : List Byte) :
    boot bus initMem base prog = .next (((State.powerUp initMem).loadProgram bus base prog).afterReset bus) :=
  hostReset_stopped (powerUp_not_running initMem)

/-- Settles O54: the reset reads the vector that the loader wrote and leaves memory alone. -/
theorem loadedProgramStartsAtItsBase : Obligations.LoadedProgramStartsAtItsBase := by
  intro initMem base prog hfit
  have hvector := wordAt_vector_loadProgram base prog (State.powerUp initMem)
  refine ⟨_, boot_eq_afterReset .plainRam initMem base prog, ?pc, rfl, ?_⟩
  case pc => rw [State.afterReset_plainRam, hvector]
  rw [afterReset_mem]
  refine ⟨hvector, fun k hk hlo hhi => ?program, fun b hlo hhi hb => ?rest⟩
  case program => exact (read_loadProgram_off_vector base prog _ hlo hhi).trans (read_loadBytes_at hfit hk)
  case rest => exact (read_loadProgram_off_vector base prog _ hlo hhi).trans (read_loadBytes_outside hb)

end Sys2Proof.Machine
